-- ==== Sys2Proof/Word.lean ====
section
/-!
DEFINITION. The widths of the values the spec treats as bits, and the index types of the part's
numbered copies (spec/00_scope.md, "Quantities").
-/

namespace Sys2Proof

/-- One byte: a trunk data byte, a cycle number, a station address, a session tag, a frame field. -/
abbrev Byte := BitVec 8

/-- Sixteen bits: a check (R103), a live counter (R163), the word value of a pattern (R150). -/
abbrev Word16 := BitVec 16

/-- A branch line, 0..3. -/
abbrev BranchNo := Fin 4

/-- An index of a map entry or of a slot, 0..119. -/
abbrev SlotIx := Fin 120

/-- The index of a live counter, 0..23 (R163). -/
abbrev CounterIx := Fin 24

end Sys2Proof
end

