-- ==== Sys2Proof/Syntax.lean ====
section
/-!
DEFINITION. The commands of the part: one constructor of `Instr` for each row of
spec/opcode_table.json, in the table's order, with the operands the spec gives the step.
The rows have no bits in the table, so no constructor has an encoding.
Log entry 1 says what a row's command is, and log entry 2 what the operands of a request row are.
-/

namespace Sys2Proof

/-- What begins a hard reset (R137, R172). -/
inductive ResetSource where
  /-- Power is applied, or VDD falls below 2.7 V. -/
  | power
  /-- RESET is driven low while power is stable. -/
  | pin
  deriving DecidableEq, Repr

/-- The samples of one trunk character after its start bit, which read 0: the eight data bits, the
mark bit, the parity bit and the stop bit (R2). -/
structure TrunkBits where
  data : Byte
  mark : Bool
  parity : Bool
  stop : Bool
  deriving DecidableEq, Repr

/-- The samples of one branch character after its start bit, which read 0 (R89). With 7 data bits the
samples stand in bits 6..0 of `data`; with parity NONE there is no parity sample and `parity` is not
looked at. `stop` is the one stop bit the receiver samples. -/
structure BranchBits where
  data : Byte
  parity : Bool
  stop : Bool
  deriving DecidableEq, Repr

/-- The fields of a service frame as received, less the Code, which the row's name gives, and the
request check, which is good (R102). The Length field is the number of parameter bytes. -/
structure ReqFrame where
  destination : Byte
  claim : Byte
  controller : Byte
  session : Byte
  sequence : Byte
  room : Byte
  params : List Byte
  deriving DecidableEq, Repr

/-- The commands, one per row of spec/opcode_table.json. -/
inductive Instr where
  /-- HARD_RESET (R12, R172). -/
  | hardReset (source : ResetSource)
  /-- HARD_RESET_END (R12, R172). -/
  | hardResetEnd
  /-- TRUNK_CHARACTER_RECEIVED (R2): a character on TI is complete. -/
  | trunkCharacterReceived (ch : TrunkBits)
  /-- TRUNK_FALSE_START (R2). -/
  | trunkFalseStart
  /-- FALLBACK_ACTION (R27): the trunk character that brings the fallback count to its threshold. -/
  | fallbackAction (ch : TrunkBits)
  /-- LOCK_GAINED (R17): the trunk character that completes the confirm count. -/
  | lockGained (ch : TrunkBits)
  /-- LOCK_LOST (R20): the trunk character whose miss brings the miss count to the miss limit. -/
  | lockLost (ch : TrunkBits)
  /-- SESSION_EXPIRED (R129): the trunk character at the header at which the session expires. -/
  | sessionExpired (ch : TrunkBits)
  /-- SWITCH_FIRE (R70): the trunk character at the header that fires the switch. -/
  | switchFire (ch : TrunkBits)
  /-- GUARD_END (R71): the trunk character at the header that ends the guard. -/
  | guardEnd (ch : TrunkBits)
  /-- DEFERRED_CAPTURE (R167): the trunk character at the header that takes the deferred capture. -/
  | deferredCapture (ch : TrunkBits)
  /-- CHECKER_RESYNC (R155): the trunk character whose judgement brings the window to the threshold. -/
  | checkerResync (ch : TrunkBits)
  /-- TEST_DONE (R157): the trunk character whose judgement completes a TIMED run. -/
  | testDone (ch : TrunkBits)
  /-- RESTART_CARRIED_OUT (R136): the trunk character that ends or aborts the frame of a RESTART. -/
  | restartCarriedOut (ch : TrunkBits)
  /-- BRANCH_CHARACTER_COMPLETE (R89). -/
  | branchCharacterComplete (b : BranchNo) (ch : BranchBits)
  /-- BRANCH_FALSE_START (R89). -/
  | branchFalseStart (b : BranchNo)
  /-- BRANCH_CHARACTER_SENT (R88). -/
  | branchCharacterSent (b : BranchNo)
  /-- IDENTIFY, code 01h (R132). -/
  | identify (f : ReqFrame)
  /-- ASSIGN, code 02h (R131). -/
  | assign (f : ReqFrame)
  /-- OPEN, code 03h (R126). -/
  | openSession (f : ReqFrame)
  /-- CLOSE, code 04h (R128). -/
  | closeSession (f : ReqFrame)
  /-- KEEP, code 05h (R128). -/
  | keep (f : ReqFrame)
  /-- NODE_GET, code 06h (R133). -/
  | nodeGet (f : ReqFrame)
  /-- NODE_SET, code 07h (R134). -/
  | nodeSet (f : ReqFrame)
  /-- RESTART, code 08h (R135). -/
  | restart (f : ReqFrame)
  /-- UNKNOWN_REQUEST: a Code that names no request (R122). -/
  | unknownRequest (code : Byte) (f : ReqFrame)
  /-- MAP_READ, code 10h (R40). -/
  | mapRead (f : ReqFrame)
  /-- MAP_WRITE, code 11h (R41). -/
  | mapWrite (f : ReqFrame)
  /-- MAP_LENGTH, code 12h (R42). -/
  | mapLength (f : ReqFrame)
  /-- MAP_COPY, code 13h (R43). -/
  | mapCopy (f : ReqFrame)
  /-- MAP_CHECK, code 14h (R44). -/
  | mapCheck (f : ReqFrame)
  /-- ARM, code 18h (R65). -/
  | arm (f : ReqFrame)
  /-- DISARM, code 19h (R78). -/
  | disarm (f : ReqFrame)
  /-- SWITCH_STATUS, code 1Ah (R81). -/
  | switchStatus (f : ReqFrame)
  /-- BRANCH_GET, code 20h (R100). -/
  | branchGet (f : ReqFrame)
  /-- BRANCH_SET, code 21h (R99). -/
  | branchSet (f : ReqFrame)
  /-- ENABLE: BRANCH_CONTROL, code 22h, action 01h (R96). -/
  | enable (f : ReqFrame)
  /-- DISABLE: BRANCH_CONTROL, code 22h, action 02h (R96). -/
  | disable (f : ReqFrame)
  /-- CLEAR_HOLD: BRANCH_CONTROL, code 22h, action 03h (R97). -/
  | clearHold (f : ReqFrame)
  /-- FLUSH_DROP: BRANCH_CONTROL, code 22h, action 04h (R98). -/
  | flushDrop (f : ReqFrame)
  /-- FLUSH_INSERT: BRANCH_CONTROL, code 22h, action 05h (R98). -/
  | flushInsert (f : ReqFrame)
  /-- POLL, code 28h (R142). -/
  | poll (f : ReqFrame)
  /-- ACK, code 29h (R144). -/
  | ack (f : ReqFrame)
  /-- TEST_SET, code 30h (R158). -/
  | testSet (f : ReqFrame)
  /-- TEST_START, code 31h (R159). -/
  | testStart (f : ReqFrame)
  /-- TEST_STOP, code 32h (R160). -/
  | testStop (f : ReqFrame)
  /-- TEST_STATUS, code 33h (R161). -/
  | testStatus (f : ReqFrame)
  /-- CAPTURE_NOW: CAPTURE, code 38h, mode 00h (R165). -/
  | captureNow (f : ReqFrame)
  /-- CAPTURE_AT_CYCLE: CAPTURE, code 38h, mode 01h (R166). -/
  | captureAtCycle (f : ReqFrame)
  /-- READ_COUNTERS, code 39h (R168). -/
  | readCounters (f : ReqFrame)
  /-- TRUNK_LINE_HIGH (R2). -/
  | trunkLineHigh
  /-- BRANCH_LINE_HIGH (R89). -/
  | branchLineHigh (b : BranchNo)
  /-- BRANCH_START_FALL (R89). -/
  | branchStartFall (b : BranchNo)
  deriving DecidableEq, Repr

end Sys2Proof
end

