-- ==== Sys2Proof/Config.lean ====
section
/-!
DEFINITION. The choices that the spec leaves open and that the part makes all the same: which of two
things that reach one piece of state at the same instant is taken first. Neither constant has a body,
so no proof can see an order; each is applied to a plain counter of State (`State.freeCount`), which
advances at every use. Log entry 3.
-/

namespace Sys2Proof

/-- One free choice between two orders (R164: an increment and a snapshot; R163: an increment and the
zeroing of RESTART; R76, R147: a lock-lost notice and RESTART). -/
opaque Config.freeBit : Nat → Bool

/-- One free choice among the orders of the posts that reach the Event Queue at one instant
(R141, R80, R23). -/
opaque Config.freeOrder : Nat → Nat

end Sys2Proof
end

