-- ==== Sys2Proof/Machine/State.lean ====
section
/-!
DEFINITION. The state of the part, as plain data, block by block (spec/00_scope.md, "Block Diagram"),
with its value after a hard reset, the two reasons a step can stop, and one named update per block.
INVENTORY.md lists every field with the rule that names it and its reset value.
-/

namespace Sys2Proof.Machine

/-- The reasons a command can stop the machine with a fault. The spec gives every command an effect in
every state, so no command raises one (safe: nothing is cut short). -/
inductive Fault where
  /-- Raised by nobody: the block stops on nothing. Safe. -/
  | neverRaised
  deriving DecidableEq, Repr

/-- The reasons a command can be refused. Every row of the table has its meaning, so none is raised. -/
inductive Refusal where
  /-- Raised by an arm of `exec` whose row has no meaning yet; no arm is left so. Safe. -/
  | notModelled (mnemonic : String)
  deriving DecidableEq, Repr

/-! ### Trunk receiver and TO (R1, R2, R5, R12) -/

/-- What the trunk receiver waits for between characters (R2). -/
inductive TrunkWait where
  /-- TI must be sampled at 1: after a stop bit of 0, and after a hard reset (R2, R12). -/
  | lineHigh
  /-- A fall of TI begins a character. -/
  | fall
  deriving DecidableEq, Repr

/-- The trunk line's own state: the receiver's wait, and the character most recently begun on TO, bits
as R1 forms them; none while TO has been held at 1 since a hard reset began (R12). -/
structure TrunkLine where
  wait : TrunkWait
  out : Option TrunkBits
  deriving DecidableEq, Repr

/-! ### Cycle Tracker (R13) -/

inductive LockState where
  | hunt
  | confirm
  | locked
  deriving DecidableEq, Repr

/-- The meaning of the next received character (R13). In CONFIRM, `slot s` counts the slots of the
cycle without acting on them (R15). -/
inductive Position where
  | none
  | awaitingNumber
  | header0
  | header1
  | slot (s : SlotIx)
  deriving DecidableEq, Repr

structure CycleTracker where
  lock : LockState
  tally : Nat
  reference : Option Byte
  missCount : Nat
  cycle : Option Byte
  position : Position
  slotsToGo : Nat
  coasting : Bool
  fallbackCount : Nat
  deriving DecidableEq, Repr

/-! ### Map Unit (R30, R33, R62) -/

/-- A map entry: an action, with the branch it serves where it serves one (R30). -/
inductive Entry where
  | pass
  | drop (b : BranchNo)
  | tap (b : BranchNo)
  | insert (b : BranchNo)
  | exchange (b : BranchNo)
  | service
  | test
  | guard
  deriving DecidableEq, Repr

structure SlotMap where
  length : Nat
  entries : Vector Entry 120
  deriving DecidableEq, Repr

inductive SwitchState where
  | idle
  | armed
  | guarding
  deriving DecidableEq, Repr

inductive SwitchOutcome where
  | none
  | done
  | cancelled
  | abandoned
  deriving DecidableEq, Repr

inductive OutcomeReason where
  | none
  | cycleJump
  | lockLost
  | restart
  deriving DecidableEq, Repr

/-- The switch record (R62). The group set has bit 0 for B0 to bit 3 for B3 and bit 4 for T (R64). -/
structure SwitchRecord where
  state : SwitchState
  cycle : Byte
  groups : BitVec 5
  guardLength : Byte
  guardEnd : Byte
  moved : Nat
  held : Nat
  guarded : Nat
  armingTag : Byte
  outcome : SwitchOutcome
  reason : OutcomeReason
  outcomeSwitch : Byte
  outcomeCycle : Option Byte
  lastHeader : Option Byte
  deriving DecidableEq, Repr

structure MapUnit where
  live : SlotMap
  pendingMap : SlotMap
  switch : SwitchRecord
  deriving DecidableEq, Repr

/-! ### Branch Units (R83, R84) -/

inductive BranchParity where
  | none
  | even
  | odd
  deriving DecidableEq, Repr

inductive ErrorPolicy where
  | discard
  | hold
  deriving DecidableEq, Repr

/-- The configuration record of a branch (R84): 7 or 8 data bits, 1 or 2 stop bits. -/
structure BranchConfig where
  sevenBits : Bool
  parity : BranchParity
  twoStops : Bool
  divisor : BitVec 12
  policy : ErrorPolicy
  startLevel : Nat
  deriving DecidableEq, Repr

inductive ReceiverState where
  | run
  | hold
  deriving DecidableEq, Repr

inductive ReceiverLine where
  | waitHigh
  | waitStart
  | receiving
  deriving DecidableEq, Repr

inductive InsertSide where
  | filling
  | flowing
  deriving DecidableEq, Repr

/-- One Branch Unit (R83). `sending` is the transmitter: none when IDLE, and the byte being sent when
SENDING, which is not part of the drop queue (R88). Queues are oldest first (R86). -/
structure Branch where
  config : BranchConfig
  enabled : Bool
  dropQueue : List Byte
  insertQueue : List Byte
  sending : Option Byte
  receiver : ReceiverState
  line : ReceiverLine
  side : InsertSide
  dropReported : Bool
  insertReported : Bool
  deriving DecidableEq, Repr

/-! ### Service Port (R105) -/

inductive ParserState where
  | idle
  | header
  | params
  | reqCheck
  | turn
  | reply
  | finish
  deriving DecidableEq, Repr

inductive Role where
  | none
  | taker
  | duplicate
  | broadcast
  | bystander
  deriving DecidableEq, Repr

/-- The reply statuses (R171). -/
inductive Status where
  | none
  | ok
  | accepted
  | badCode
  | badParam
  | roomShort
  | checkFail
  | noSession
  | staleSession
  | held
  | busy
  | locked
  | notLocked
  | badCycle
  | lengthNeedsFull
  | checkMismatch
  | noService
  | tooLate
  | branchEnabled
  | duplicate
  deriving DecidableEq, Repr

/-- A Status and its Q data bytes, as ME hands them back (R110); Q is the number of bytes. -/
structure Reply where
  status : Status
  data : List Byte
  deriving DecidableEq, Repr

/-- The reply section the part will write (R110): Status, Q, the R reply data bytes (the Q data bytes
and the padding of 00h) and the reply check. -/
structure PendingReply where
  status : Status
  q : Nat
  data : List Byte
  check : Word16
  deriving DecidableEq, Repr

/-- The frame-in-passage context (R105). The received request check is its two characters. -/
structure FrameContext where
  parser : ParserState
  place : Nat
  role : Role
  destination : Option Byte
  code : Option Byte
  claim : Option Byte
  controller : Option Byte
  session : Option Byte
  sequence : Option Byte
  room : Option Byte
  length : Option Byte
  params : List Byte
  runningCheck : Word16
  checkHigh : Option Byte
  checkLow : Option Byte
  executed : Bool
  pendingReply : Option PendingReply
  deriving DecidableEq, Repr

/-! ### Management Executive (R120, R133) -/

structure NodeSettings where
  fill : Byte
  guardLength : Byte
  sessionTimeout : Byte
  confirmCount : Byte
  missLimit : Byte
  fallbackThreshold : Byte
  attention : Bool
  clearOnCapture : Bool
  deriving DecidableEq, Repr

/-- The owner and the tag of the OPEN session (R120). -/
structure Session where
  owner : Byte
  tag : Byte
  deriving DecidableEq, Repr

inductive RestartCause where
  | power
  | pin
  | request
  deriving DecidableEq, Repr

/-- The Executive's state (R120). The session is none when CLOSED; the reply cache is none when
invalid. -/
structure Management where
  address : Byte
  session : Option Session
  inactivity : Nat
  lastSequence : Option Byte
  cache : Option Reply
  tagCounter : Byte
  node : NodeSettings
  restartCause : RestartCause
  deferredRestart : Bool
  deriving DecidableEq, Repr

/-! ### Event Queue (R138, R139) -/

/-- The sixteen event kinds (R140). -/
inductive EventKind where
  | restarted
  | lockGained
  | lockLost
  | cycleJump
  | fallback
  | switchDone
  | switchAbandoned
  | sessionExpired
  | addressConflict
  | branchHold
  | dropOverrun
  | insertOverrun
  | testDone
  | captureDone
  | captureAbandoned
  | overflow
  deriving DecidableEq, Repr

structure EventRecord where
  sequence : Byte
  kind : EventKind
  cycle : Option Byte
  detail : List Byte
  deriving DecidableEq, Repr

/-- The list of records, oldest first, and the next sequence number (R138). -/
structure EventQueue where
  events : List EventRecord
  nextSequence : Byte
  deriving DecidableEq, Repr

/-! ### Pattern Unit (R148) -/

inductive Pattern where
  | prbs9
  | prbs15
  | count
  | word
  deriving DecidableEq, Repr

/-- A pattern register (R149, R150). Stage i of a shift register is bit i - 1. The WORD register holds
HIGH when `high` is true. -/
inductive PatternRegister where
  | prbs9 (stages : BitVec 9)
  | prbs15 (stages : BitVec 15)
  | count (value : Byte)
  | word (high : Bool)
  deriving DecidableEq, Repr

inductive CheckerState where
  | off
  | seek
  | locked
  deriving DecidableEq, Repr

/-- The seek progress (R153, R154): nothing held; one seed byte held; the register loaded (two PRBS
seed bytes, or the COUNT seed, or the WORD register aligned) and no proof byte held; one proof byte
held beside the byte that was predicted for it. -/
inductive SeekProgress where
  | empty
  | seed (byte : Byte)
  | loaded
  | proof (received predicted : Byte)
  deriving DecidableEq, Repr

inductive RunState where
  | idle
  | running
  | done
  deriving DecidableEq, Repr

inductive RunMode where
  | continuous
  | timed
  deriving DecidableEq, Repr

inductive RunLength where
  | len256
  | len4096
  | len65535
  deriving DecidableEq, Repr

/-- The pattern configuration, written by TEST_SET only (R148). -/
structure PatternConfig where
  generatorOn : Bool
  generatorPattern : Pattern
  checkerOn : Bool
  checkerPattern : Pattern
  word : Word16
  threshold : Nat
  deriving DecidableEq, Repr

/-- The Pattern Unit (R148). The window is oldest first; `true` stands for a mismatch. -/
structure PatternUnit where
  config : PatternConfig
  generator : PatternRegister
  checker : CheckerState
  checkerRegister : Option PatternRegister
  progress : SeekProgress
  window : List Bool
  run : RunState
  mode : RunMode
  runLength : RunLength
  checked : Word16
  errors : Word16
  resyncs : Byte
  stopped : Bool
  deriving DecidableEq, Repr

/-! ### Counter Block (R163, R164, R166) -/

structure CaptureRecord where
  number : Byte
  cycle : Option Byte
  values : Vector Word16 24
  deriving DecidableEq, Repr

structure DeferredCapture where
  armed : Bool
  cycle : Byte
  deriving DecidableEq, Repr

structure CounterBlock where
  live : Vector Word16 24
  capture : CaptureRecord
  deferred : DeferredCapture
  deriving DecidableEq, Repr

/-! ### The whole part -/

/-- The state of the part. `inReset` holds while a hard reset lasts (R12). `freeCount` is the MODEL's
own counter, to which the free choices of `Config` are applied (log entry 3), and `pending` the
MODEL's own queue of the commands that wait, first in, first out. -/
structure State where
  inReset : Bool
  trunk : TrunkLine
  ct : CycleTracker
  mu : MapUnit
  bu : Vector Branch 4
  sp : FrameContext
  me : Management
  eq : EventQueue
  pu : PatternUnit
  cb : CounterBlock
  freeCount : Nat
  pending : List Instr
  deriving DecidableEq, Repr

/-! ### One named update per block -/

def State.withInReset (s : State) (x : Bool) : State := { s with inReset := x }
def State.withTrunk (s : State) (x : TrunkLine) : State := { s with trunk := x }
def State.withCt (s : State) (x : CycleTracker) : State := { s with ct := x }
def State.withMu (s : State) (x : MapUnit) : State := { s with mu := x }
def State.withBu (s : State) (x : Vector Branch 4) : State := { s with bu := x }
def State.withSp (s : State) (x : FrameContext) : State := { s with sp := x }
def State.withMe (s : State) (x : Management) : State := { s with me := x }
def State.withEq (s : State) (x : EventQueue) : State := { s with eq := x }
def State.withPu (s : State) (x : PatternUnit) : State := { s with pu := x }
def State.withCb (s : State) (x : CounterBlock) : State := { s with cb := x }
def State.withFreeCount (s : State) (x : Nat) : State := { s with freeCount := x }
def State.withPending (s : State) (x : List Instr) : State := { s with pending := x }
/-- The state with branch b's unit replaced; the other three are as they were. -/
def State.withBranch (s : State) (b : BranchNo) (x : Branch) : State := { s with bu := s.bu.set b x }

/-! ### Values after a hard reset -/

/-- The bootstrap map (R34): length 16, SERVICE at 0 and 8, PASS elsewhere. -/
def SlotMap.bootstrap : SlotMap where
  length := 16
  entries := ((Vector.replicate 120 Entry.pass).set 0 Entry.service).set 8 Entry.service

def TrunkLine.reset : TrunkLine := { wait := .lineHigh, out := none }

def CycleTracker.reset : CycleTracker where
  lock := .hunt
  tally := 0
  reference := none
  missCount := 0
  cycle := none
  position := .none
  slotsToGo := 0
  coasting := false
  fallbackCount := 0

def SwitchRecord.reset : SwitchRecord where
  state := .idle
  cycle := 0
  groups := 0
  guardLength := 0
  guardEnd := 0
  moved := 0
  held := 0
  guarded := 0
  armingTag := 0
  outcome := .none
  reason := .none
  outcomeSwitch := 0
  outcomeCycle := none
  lastHeader := none

def MapUnit.reset : MapUnit :=
  { live := SlotMap.bootstrap, pendingMap := SlotMap.bootstrap, switch := SwitchRecord.reset }

/-- The default configuration record of a branch (R84). -/
def BranchConfig.default : BranchConfig where
  sevenBits := false
  parity := .none
  twoStops := false
  divisor := 1
  policy := .discard
  startLevel := 0

/-- A disabled branch that keeps its configuration record: the values of R83 after a hard reset, after
RESTART and after DISABLE. -/
def Branch.disabledWith (c : BranchConfig) : Branch where
  config := c
  enabled := false
  dropQueue := []
  insertQueue := []
  sending := none
  receiver := .run
  line := .waitHigh
  side := .filling
  dropReported := false
  insertReported := false

def FrameContext.reset : FrameContext where
  parser := .idle
  place := 0
  role := .none
  destination := none
  code := none
  claim := none
  controller := none
  session := none
  sequence := none
  room := none
  length := none
  params := []
  runningCheck := 0xFFFF
  checkHigh := none
  checkLow := none
  executed := false
  pendingReply := none

/-- The default node settings (R133). -/
def NodeSettings.default : NodeSettings where
  fill := 0xFF
  guardLength := 2
  sessionTimeout := 16
  confirmCount := 3
  missLimit := 2
  fallbackThreshold := 64
  attention := true
  clearOnCapture := false

def Management.reset (cause : RestartCause) : Management where
  address := 0
  session := none
  inactivity := 0
  lastSequence := none
  cache := none
  tagCounter := 0
  node := NodeSettings.default
  restartCause := cause
  deferredRestart := false

/-- The code of a restart cause (R132, R140). -/
def RestartCause.code : RestartCause → Byte
  | .power => 0x00
  | .pin => 0x01
  | .request => 0x02

/-- The Event Queue with the one record RESTARTED, sequence 0 (R138, R147). -/
def EventQueue.restarted (cause : RestartCause) (abandoned : Bool) (cycle : Option Byte) : EventQueue where
  events := [{ sequence := 0, kind := .restarted, cycle := cycle,
               detail := [cause.code, if abandoned then 0x01 else 0x00] }]
  nextSequence := 1

def PatternUnit.reset : PatternUnit where
  config := { generatorOn := false, generatorPattern := .prbs15, checkerOn := false, checkerPattern := .prbs15,
              word := 0, threshold := 4 }
  generator := .prbs15 0x7FFF
  checker := .off
  checkerRegister := none
  progress := .empty
  window := []
  run := .idle
  mode := .continuous
  runLength := .len256
  checked := 0
  errors := 0
  resyncs := 0
  stopped := false

def CounterBlock.reset : CounterBlock where
  live := Vector.replicate 24 0
  capture := { number := 0, cycle := none, values := Vector.replicate 24 0 }
  deferred := { armed := false, cycle := 0 }

/-- Every block at its hard-reset value, for the cause that began the reset (R12, R137). -/
def State.afterReset (cause : RestartCause) : State where
  inReset := false
  trunk := TrunkLine.reset
  ct := CycleTracker.reset
  mu := MapUnit.reset
  bu := Vector.replicate 4 (Branch.disabledWith BranchConfig.default)
  sp := FrameContext.reset
  me := Management.reset cause
  eq := EventQueue.restarted cause false none
  pu := PatternUnit.reset
  cb := CounterBlock.reset
  freeCount := 0
  pending := []

/-- The part right after a power-on reset has ended, with no command waiting. The spec gives every
value but the cause, which is that of the reset taken here, POWER (log entry 5). -/
def State.reset : State := State.afterReset .power

end Sys2Proof.Machine
end

