-- ==== Sys2Proof/Machine/Flags.lean ====
section
/-!
DEFINITION. The conditions that blocks read of one another and that are no state of their own: lock,
the cycle field, the attention request, the Pending lock, the window's mismatches
(spec/02 R13, spec/03 R37, spec/09 R139, R146, spec/10 R155).
-/

namespace Sys2Proof.Machine

/-- The part runs: no hard reset lasts (R12). -/
abbrev State.running (s : State) : Prop := s.inReset = false

/-- CT is LOCKED. -/
abbrev State.locked (s : State) : Prop := s.ct.lock = .locked

/-- CT is LOCKED and its coasting flag is clear: check 2 of ARM (R65) and check 1 of AT_CYCLE (R166). -/
def lockedNotCoasting (s : State) : Bool := decide (s.ct.lock = .locked) && !s.ct.coasting

/-- The cycle field of a post made now: the current cycle number while CT is LOCKED, absent otherwise
(R139). -/
def cycleField (s : State) : Option Byte := if s.ct.lock = .locked then s.ct.cycle else none

/-- The attention request (R146): the list holds a record and the attention enable is on. -/
def attentionAsked (s : State) : Bool := !s.eq.events.isEmpty && s.me.node.attention

/-- Pending is locked while the switch is ARMED or GUARDING (R37). -/
def pendingLocked (m : MapUnit) : Bool := decide (m.switch.state ≠ .idle)

/-- The fill byte in force (R10). -/
def fillByte (s : State) : Byte := s.me.node.fill

/-- The mismatches among a checker's window (R155). -/
def windowMismatches (w : List Bool) : Nat := w.countP id

/-- A queue is full at depth 32 (R86). -/
def queueFull (q : List Byte) : Bool := decide (32 ≤ q.length)

end Sys2Proof.Machine
end

