-- ==== Sys2Proof/Machine/Check.lean ====
section
/-!
DEFINITION. The CRC-16 of R103, the one check of the part: the map check, the request check and the
reply check.
-/

namespace Sys2Proof.Machine

/-- The high byte of a 16-bit value, which travels first (R103). -/
def hiByte (w : Word16) : Byte := w.extractLsb' 8 8

/-- The low byte of a 16-bit value. -/
def loByte (w : Word16) : Byte := w.extractLsb' 0 8

/-- The 16-bit value of two bytes, high byte first. -/
def word16 (hi lo : Byte) : Word16 := hi ++ lo

/-- One step of the check register: a shift left by one place, with 1021h added modulo 2 when the bit
shifted out was 1 (R103). -/
def crcStep (r : Word16) : Word16 :=
  if r.msb then (r <<< 1) ^^^ 0x1021 else r <<< 1

/-- One byte taken into the check register: added into the high eight bits, then eight steps (R103). -/
def crcByte (r : Word16) (v : Byte) : Word16 :=
  Nat.repeat crcStep 8 (r ^^^ word16 v 0)

/-- The check register taken on over a sequence of bytes. -/
def crcFrom (r : Word16) (bytes : List Byte) : Word16 := bytes.foldl crcByte r

/-- The check of a sequence of bytes: the register starts at FFFFh (R103). -/
def crc16 (bytes : List Byte) : Word16 := crcFrom 0xFFFF bytes

end Sys2Proof.Machine
end

