-- ==== Sys2Proof/Machine/Line.lean ====
section
/-!
DEFINITION. The characters of the trunk line and of the branch lines: how the part forms them, and how
it judges the ones it receives (spec/01 R1 to R4, spec/06 R85, R89).
-/

namespace Sys2Proof.Machine

/-- What a received trunk character is taken as (R3, R4). A damaged one has no value; a stray mark keeps
its byte, with which an unlocked part forwards it (R25). -/
inductive TrunkChar where
  | damaged
  | plain (v : Byte)
  | sync
  | syncA
  | fs
  | fe
  | sidle
  | stray (v : Byte)
  deriving DecidableEq, Repr

/-- A character the part sends on TO: its mark bit and its data byte (R1). -/
structure OutChar where
  mark : Bool
  data : Byte
  deriving DecidableEq, Repr

/-- Whether the number of ones among the data bits, and the two bits beside them, is odd. -/
def oddOnes (data : Byte) (x y : Bool) : Bool :=
  ((List.range 8).map data.getLsbD).foldl xor (xor x y)

/-- A sent character's bits (R1): the parity bit makes the ones among data, mark and parity odd, and the
stop bit is 1. -/
def formTrunk (c : OutChar) : TrunkBits where
  data := c.data
  mark := c.mark
  parity := !(oddOnes c.data c.mark false)
  stop := true

/-- The twelve levels of a trunk character on the line (R1): start, data bits 0..7, mark, parity, stop. -/
def trunkLevels (t : TrunkBits) : List Bool :=
  false :: ((List.range 8).map t.data.getLsbD ++ [t.mark, t.parity, t.stop])

/-- The judgement of a received character: damaged when its stop bit is 0 or the ones among data, mark
and parity are even (R3), else classified by its mark bit and its data byte (R4). -/
def classify (t : TrunkBits) : TrunkChar :=
  if t.stop && oddOnes t.data t.mark t.parity then
    if t.mark then
      if t.data = 0x3C then .sync
      else if t.data = 0x3D then .syncA
      else if t.data = 0x51 then .fs
      else if t.data = 0x5E then .fe
      else if t.data = 0x00 then .sidle
      else .stray t.data
    else .plain t.data
  else .damaged

/-- A sync code is SYNC or SYNC-A (R8). -/
def TrunkChar.isSync : TrunkChar → Bool
  | .sync => true
  | .syncA => true
  | _ => false

/-- A marked character of any code; a damaged one is neither marked nor plain (R3). -/
def TrunkChar.isMarked : TrunkChar → Bool
  | .damaged => false
  | .plain _ => false
  | _ => true

/-- A plain character to send. -/
def plainOut (v : Byte) : OutChar := { mark := false, data := v }

def syncOut : OutChar := { mark := true, data := 0x3C }
def syncAOut : OutChar := { mark := true, data := 0x3D }
/-- SIDLE, the service substitute (R10). -/
def sidleOut : OutChar := { mark := true, data := 0x00 }

/-- A character sent as received, or as the plain fill byte when it is damaged (R25). -/
def TrunkChar.forwarded (fill : Byte) : TrunkChar → OutChar
  | .damaged => plainOut fill
  | .plain v => plainOut v
  | .sync => syncOut
  | .syncA => syncAOut
  | .fs => { mark := true, data := 0x51 }
  | .fe => { mark := true, data := 0x5E }
  | .sidle => sidleOut
  | .stray v => { mark := true, data := v }

/-- The bits of a data byte that a branch's record gives: 7 or 8, bit 7 taken as 0 where it gives 7
(R85, R89). -/
def branchData (c : BranchConfig) (v : Byte) : Byte :=
  if c.sevenBits then v &&& 0x7F else v

/-- Whether a parity bit agrees with a branch's record (R85, R89). -/
def branchParityOk (c : BranchConfig) (v : Byte) (p : Bool) : Bool :=
  match c.parity with
  | .none => true
  | .even => !(oddOnes (branchData c v) p false)
  | .odd => oddOnes (branchData c v) p false

/-- The judgement of a complete branch character (R89): the value of a good one, none for a bad one. -/
def branchValue (c : BranchConfig) (t : BranchBits) : Option Byte :=
  if t.stop && branchParityOk c t.data t.parity then some (branchData c t.data) else none

/-- The levels a transmitter drives on BTXb for one byte (R85): start, 7 or 8 data bits, the parity bit
where there is one, one or two stop bits. -/
def branchLevels (c : BranchConfig) (v : Byte) : List Bool :=
  false :: ((List.range (if c.sevenBits then 7 else 8)).map v.getLsbD
    ++ (match c.parity with
        | .none => []
        | .even => [oddOnes (branchData c v) false false]
        | .odd => [!(oddOnes (branchData c v) false false)])
    ++ (if c.twoStops then [true, true] else [true]))

/-- The branch character time in bit times (R84). -/
def branchCharacterTime (c : BranchConfig) : Nat := (branchLevels c 0).length

/-- The branch bit time in periods of CLK (R84). -/
def branchBitTime (c : BranchConfig) : Nat := c.divisor.toNat * 16

/-- The level of a branch's BTX between bits: the line idles at 1 while nothing is sent (R83, R88);
none while a character is on the line. -/
def btxLevels (b : Branch) : List Bool :=
  match b.sending with
  | none => [true]
  | some v => branchLevels b.config v

end Sys2Proof.Machine
end

