-- ==== Sys2Proof/Machine/Operands.lean ====
section
/-!
DEFINITION. The byte layouts of the operands and of the replies: entry bytes, owner groups, the two
configuration records, the codes of requests, statuses and coded values (spec/03 R30 to R32, spec/06 R94,
R95, spec/08 R121, R133, spec/09 R140, spec/10 R158, R159, spec/13 R171).
-/

namespace Sys2Proof.Machine

/-- A count or a length as one byte. -/
def natByte (n : Nat) : Byte := BitVec.ofNat 8 n

def boolByte (x : Bool) : Byte := if x then 0x01 else 0x00

/-- The distance from cycle number a to cycle number b, modulo 256 (R7). -/
def distance (a b : Byte) : Nat := (b - a).toNat

/-! ### Map entries -/

/-- The action code of an entry (R30). -/
def Entry.actionCode : Entry → Nat
  | .pass => 0
  | .drop _ => 1
  | .tap _ => 2
  | .insert _ => 3
  | .exchange _ => 4
  | .service => 5
  | .test => 6
  | .guard => 7

/-- The branch an entry serves; present for the branch-facing actions only (R30, R31). -/
def Entry.branch : Entry → Option BranchNo
  | .drop b => some b
  | .tap b => some b
  | .insert b => some b
  | .exchange b => some b
  | .pass => none
  | .service => none
  | .test => none
  | .guard => none

/-- The entry byte: 16 times the action code plus the branch number, 0 where there is none (R32). -/
def Entry.byte (e : Entry) : Byte :=
  natByte (16 * e.actionCode + (e.branch.elim 0 Fin.val))

/-- The storable entry a byte names, none for an invalid byte (R32). -/
def entryOfByte (v : Byte) : Option Entry :=
  let b : BranchNo := ⟨v.toNat % 4, Nat.mod_lt _ (by decide)⟩
  let low := v.toNat % 16
  match v.toNat / 16 with
  | 0 => if low = 0 then some .pass else none
  | 1 => if low < 4 then some (.drop b) else none
  | 2 => if low < 4 then some (.tap b) else none
  | 3 => if low < 4 then some (.insert b) else none
  | 4 => if low < 4 then some (.exchange b) else none
  | 5 => if low = 0 then some .service else none
  | 6 => if low = 0 then some .test else none
  | _ => none

/-- The bit of the group set that names an entry's owner group: 0..3 for B0..B3, 4 for T; none for
GUARD, which belongs to no group (R31, R64). -/
def Entry.group : Entry → Option Nat
  | .drop b => some b.val
  | .tap b => some b.val
  | .insert b => some b.val
  | .exchange b => some b.val
  | .pass => some 4
  | .service => some 4
  | .test => some 4
  | .guard => none

/-- Whether an owner group is in a group set. -/
def groupIn (set : BitVec 5) (g : Option Nat) : Bool := g.elim false set.getLsbD

/-! ### Coded values -/

def SwitchState.code : SwitchState → Byte
  | .idle => 0x00
  | .armed => 0x01
  | .guarding => 0x02

def SwitchOutcome.code : SwitchOutcome → Byte
  | .none => 0x00
  | .done => 0x01
  | .cancelled => 0x02
  | .abandoned => 0x03

def OutcomeReason.code : OutcomeReason → Byte
  | .none => 0x00
  | .cycleJump => 0x01
  | .lockLost => 0x02
  | .restart => 0x04

/-- The event kind codes (R140). -/
def EventKind.code : EventKind → Byte
  | .restarted => 0x01
  | .lockGained => 0x02
  | .lockLost => 0x03
  | .cycleJump => 0x04
  | .fallback => 0x05
  | .switchDone => 0x10
  | .switchAbandoned => 0x11
  | .sessionExpired => 0x18
  | .addressConflict => 0x19
  | .branchHold => 0x20
  | .dropOverrun => 0x21
  | .insertOverrun => 0x22
  | .testDone => 0x28
  | .captureDone => 0x30
  | .captureAbandoned => 0x31
  | .overflow => 0x3F

/-- The status codes (R171). -/
def Status.code : Status → Byte
  | .none => 0x00
  | .ok => 0x01
  | .accepted => 0x02
  | .badCode => 0x10
  | .badParam => 0x11
  | .roomShort => 0x12
  | .checkFail => 0x13
  | .noSession => 0x20
  | .staleSession => 0x21
  | .held => 0x22
  | .busy => 0x30
  | .locked => 0x31
  | .notLocked => 0x32
  | .badCycle => 0x33
  | .lengthNeedsFull => 0x34
  | .checkMismatch => 0x35
  | .noService => 0x36
  | .tooLate => 0x37
  | .branchEnabled => 0x38
  | .duplicate => 0x40

/-! ### Requests -/

/-- The requests (R121, R171). -/
inductive ReqName where
  | identify
  | assign
  | openSession
  | closeSession
  | keep
  | nodeGet
  | nodeSet
  | restart
  | mapRead
  | mapWrite
  | mapLength
  | mapCopy
  | mapCheck
  | arm
  | disarm
  | switchStatus
  | branchGet
  | branchSet
  | branchControl
  | poll
  | ack
  | testSet
  | testStart
  | testStop
  | testStatus
  | capture
  | readCounters
  deriving DecidableEq, Repr

/-- The request codes (R171). -/
def ReqName.code : ReqName → Byte
  | .identify => 0x01
  | .assign => 0x02
  | .openSession => 0x03
  | .closeSession => 0x04
  | .keep => 0x05
  | .nodeGet => 0x06
  | .nodeSet => 0x07
  | .restart => 0x08
  | .mapRead => 0x10
  | .mapWrite => 0x11
  | .mapLength => 0x12
  | .mapCopy => 0x13
  | .mapCheck => 0x14
  | .arm => 0x18
  | .disarm => 0x19
  | .switchStatus => 0x1A
  | .branchGet => 0x20
  | .branchSet => 0x21
  | .branchControl => 0x22
  | .poll => 0x28
  | .ack => 0x29
  | .testSet => 0x30
  | .testStart => 0x31
  | .testStop => 0x32
  | .testStatus => 0x33
  | .capture => 0x38
  | .readCounters => 0x39

/-- Every request once, in code order. -/
def allRequests : List ReqName :=
  [.identify, .assign, .openSession, .closeSession, .keep, .nodeGet, .nodeSet, .restart,
   .mapRead, .mapWrite, .mapLength, .mapCopy, .mapCheck, .arm, .disarm, .switchStatus,
   .branchGet, .branchSet, .branchControl, .poll, .ack, .testSet, .testStart, .testStop,
   .testStatus, .capture, .readCounters]

/-- The request a Code names, none for a Code that names no request (R121). -/
def requestOfCode (code : Byte) : Option ReqName := allRequests.find? fun r => r.code = code

/-- Whether a request is sessioned (R121). An ASSIGN is sessioned unless its Destination is 0 (R122). -/
def ReqName.sessioned (destination : Byte) : ReqName → Bool
  | .assign => destination ≠ 0
  | .closeSession | .keep | .nodeSet | .restart => true
  | .mapWrite | .mapLength | .mapCopy | .arm | .disarm => true
  | .branchSet | .branchControl | .ack | .testSet | .testStart | .testStop => true
  | .identify | .openSession | .nodeGet | .mapRead | .mapCheck | .switchStatus => false
  | .branchGet | .poll | .testStatus | .capture | .readCounters => false

/-- A request as the Service Port hands it to ME (R110): the header fields, the Room R, the parameter
bytes, and whether it came in a broadcast frame (R112). -/
structure Request where
  destination : Byte
  code : Byte
  controller : Byte
  session : Byte
  sequence : Byte
  room : Nat
  params : List Byte
  broadcast : Bool
  deriving DecidableEq, Repr

/-- Parameter byte k, counted from 0; 00h where there is none. -/
def Request.param (r : Request) (k : Nat) : Byte := r.params.getD k 0

/-! ### The branch configuration record (R94) -/

def BranchParity.code : BranchParity → Byte
  | .none => 0x00
  | .even => 0x01
  | .odd => 0x02

def ErrorPolicy.code : ErrorPolicy → Byte
  | .discard => 0x00
  | .hold => 0x01

/-- The seven bytes of a record, in the order of R94. -/
def BranchConfig.bytes (c : BranchConfig) : List Byte :=
  let d : Word16 := c.divisor.setWidth 16
  [if c.sevenBits then 0x07 else 0x08, c.parity.code, if c.twoStops then 0x02 else 0x01,
   hiByte d, loByte d, c.policy.code, natByte c.startLevel]

def parityOfByte (v : Byte) : Option BranchParity :=
  if v = 0x00 then some .none else if v = 0x01 then some .even else if v = 0x02 then some .odd else none

def policyOfByte (v : Byte) : Option ErrorPolicy :=
  if v = 0x00 then some .discard else if v = 0x01 then some .hold else none

/-- A byte that is 00h or 01h, as a switch. -/
def boolOfByte (v : Byte) : Option Bool :=
  if v = 0x00 then some false else if v = 0x01 then some true else none

/-- The record that seven bytes give, none when it is not valid (R94). -/
def branchConfigOfBytes : List Byte → Option BranchConfig
  | [bits, par, stops, dHi, dLo, pol, level] =>
    match parityOfByte par, policyOfByte pol with
    | some p, some e =>
      let d := (word16 dHi dLo).toNat
      if (bits = 0x07 ∨ bits = 0x08) ∧ (stops = 0x01 ∨ stops = 0x02) ∧ 1 ≤ d ∧ d ≤ 4095 ∧ level.toNat ≤ 31 then
        some { sevenBits := bits = 0x07, parity := p, twoStops := stops = 0x02, divisor := BitVec.ofNat 12 d,
               policy := e, startLevel := level.toNat }
      else none
    | _, _ => none
  | _ => none

/-! ### The node settings record (R133) -/

/-- The eight bytes of the node settings, in the order of R133. -/
def NodeSettings.bytes (n : NodeSettings) : List Byte :=
  [n.fill, n.guardLength, n.sessionTimeout, n.confirmCount, n.missLimit, n.fallbackThreshold,
   boolByte n.attention, boolByte n.clearOnCapture]

/-- Whether the numeric settings of a record are in their ranges (R133). -/
def NodeSettings.valid (n : NodeSettings) : Bool :=
  decide (n.guardLength.toNat ≤ 7 ∧ 1 ≤ n.sessionTimeout.toNat ∧ 2 ≤ n.confirmCount.toNat
    ∧ n.confirmCount.toNat ≤ 7 ∧ 1 ≤ n.missLimit.toNat ∧ n.missLimit.toNat ≤ 7)

/-- The settings that eight bytes give, none when the record is not valid (R133). -/
def nodeSettingsOfBytes : List Byte → Option NodeSettings
  | [fill, g, t, cc, ml, fb, att, clr] =>
    match boolOfByte att, boolOfByte clr with
    | some a, some c =>
      let n : NodeSettings := { fill := fill, guardLength := g, sessionTimeout := t, confirmCount := cc,
                                missLimit := ml, fallbackThreshold := fb, attention := a, clearOnCapture := c }
      if n.valid then some n else none
    | _, _ => none
  | _ => none

/-! ### The pattern configuration and the run parameters (R158, R159) -/

def Pattern.code : Pattern → Byte
  | .prbs9 => 0x00
  | .prbs15 => 0x01
  | .count => 0x02
  | .word => 0x03

def patternOfByte (v : Byte) : Option Pattern :=
  if v = 0x00 then some .prbs9 else if v = 0x01 then some .prbs15
  else if v = 0x02 then some .count else if v = 0x03 then some .word else none

/-- The seven bytes of the pattern configuration, in the order of R158. -/
def PatternConfig.bytes (c : PatternConfig) : List Byte :=
  [boolByte c.generatorOn, c.generatorPattern.code, boolByte c.checkerOn, c.checkerPattern.code,
   hiByte c.word, loByte c.word, natByte c.threshold]

/-- The pattern configuration that seven bytes give, none when one is outside its values (R158). -/
def patternConfigOfBytes : List Byte → Option PatternConfig
  | [gOn, gPat, cOn, cPat, wHi, wLo, th] =>
    match boolOfByte gOn, patternOfByte gPat, boolOfByte cOn, patternOfByte cPat with
    | some g, some gp, some c, some cp =>
      if 2 ≤ th.toNat ∧ th.toNat ≤ 8 then
        some { generatorOn := g, generatorPattern := gp, checkerOn := c, checkerPattern := cp,
               word := word16 wHi wLo, threshold := th.toNat }
      else none
    | _, _, _, _ => none
  | _ => none

def RunMode.code : RunMode → Byte
  | .continuous => 0x00
  | .timed => 0x01

def runModeOfByte (v : Byte) : Option RunMode :=
  if v = 0x00 then some .continuous else if v = 0x01 then some .timed else none

def RunLength.code : RunLength → Byte
  | .len256 => 0x00
  | .len4096 => 0x01
  | .len65535 => 0x02

def runLengthOfByte (v : Byte) : Option RunLength :=
  if v = 0x00 then some .len256 else if v = 0x01 then some .len4096
  else if v = 0x02 then some .len65535 else none

/-- The number of judged elements of a TIMED run (R159). -/
def RunLength.elements : RunLength → Word16
  | .len256 => 256
  | .len4096 => 4096
  | .len65535 => 65535

def RunState.code : RunState → Byte
  | .idle => 0x00
  | .running => 0x01
  | .done => 0x02

def CheckerState.code : CheckerState → Byte
  | .off => 0x00
  | .seek => 0x01
  | .locked => 0x02

/-- An event record's bytes in a POLL reply (R142). -/
def EventRecord.bytes (e : EventRecord) : List Byte :=
  [e.sequence, e.kind.code,
   match e.cycle with
   | some _ => natByte (0x80 + e.detail.length)
   | none => natByte e.detail.length,
   e.cycle.getD 0] ++ e.detail

end Sys2Proof.Machine
end

