-- ==== Sys2Proof/Machine/Ops.lean ====
section
/-!
DEFINITION. The operations every block shares: a counter increment (R163), an event post (R141), and the
free choices of order among things that fall at one instant (R141, R163, R164; log entry 3).
-/

namespace Sys2Proof.Machine

/-! ### Counters -/

/-- A counter value with one added, left at 65535 where it is there (R163). -/
def satInc (w : Word16) : Word16 := if w = 0xFFFF then w else w + 1

/-- The indices of the counters (R163). -/
def cntDamaged : CounterIx := 0
def cntMisses : CounterIx := 1
def cntLockLosses : CounterIx := 2
def cntJumps : CounterIx := 3
def cntFramesSeen : CounterIx := 4
def cntFramesTaken : CounterIx := 5
def cntCheckFailures : CounterIx := 6
def cntFrameAborts : CounterIx := 7
def cntDropDiscards (b : BranchNo) : CounterIx := ⟨8 + 4 * b.val, by omega⟩
def cntInsertDiscards (b : BranchNo) : CounterIx := ⟨9 + 4 * b.val, by omega⟩
def cntStarved (b : BranchNo) : CounterIx := ⟨10 + 4 * b.val, by omega⟩
def cntReceiveErrors (b : BranchNo) : CounterIx := ⟨11 + 4 * b.val, by omega⟩

/-- One increment of one live counter (R163). -/
def count (i : CounterIx) (s : State) : State :=
  s.withCb { s.cb with live := s.cb.live.set i (satInc s.cb.live[i]) }

/-- The increments of a list, one after the other. -/
def countAll (is : List CounterIx) (s : State) : State := is.foldl (fun t i => count i t) s

/-- The things of a list that a free choice takes before the other thing at their instant. -/
def freeEarly {α : Type} : List α → Nat → List α
  | [], _ => []
  | x :: xs, k => if Config.freeBit k then x :: freeEarly xs (k + 1) else freeEarly xs (k + 1)

/-- The things of the list that the same choice takes after it. -/
def freeLate {α : Type} : List α → Nat → List α
  | [], _ => []
  | x :: xs, k => if Config.freeBit k then freeLate xs (k + 1) else x :: freeLate xs (k + 1)

/-- Increments that fall at the same instant as an action on the counters (a snapshot, R164, or the
zeroing of RESTART, R163): each is taken before it or after it, in either order. -/
def countRacing (is : List CounterIx) (act : State → State) (s : State) : State :=
  let k := s.freeCount
  countAll (freeLate is k) (act (countAll (freeEarly is k) (s.withFreeCount (k + is.length))))

/-! ### Event posts -/

/-- What a poster hands the Event Queue: a kind and its detail bytes (R141). -/
structure Post where
  kind : EventKind
  detail : List Byte
  deriving DecidableEq, Repr

/-- The lost count of an OVERFLOW record, advanced and stopped at 255 (R141). -/
def advanceLost : List Byte → List Byte
  | [] => []
  | n :: rest => (if n = 0xFF then n else n + 1) :: rest

/-- The newest record of a full list, which is an OVERFLOW record, with its lost count advanced (R141). -/
def advanceNewest : List EventRecord → List EventRecord
  | [] => []
  | [e] => if e.kind = .overflow then [{ e with detail := advanceLost e.detail }] else [e]
  | e :: rest => e :: advanceNewest rest

/-- The Event Queue after one post with the cycle field given (R141). -/
def postTo (q : EventQueue) (cycle : Option Byte) (p : Post) : EventQueue :=
  if q.events.length ≤ 14 then
    { events := q.events ++ [{ sequence := q.nextSequence, kind := p.kind, cycle := cycle, detail := p.detail }],
      nextSequence := q.nextSequence + 1 }
  else if q.events.length = 15 then
    { events := q.events ++ [{ sequence := q.nextSequence, kind := .overflow, cycle := cycle, detail := [0x01] }],
      nextSequence := q.nextSequence + 1 }
  else { q with events := advanceNewest q.events }

/-- One post, made with the cycle field of the instant (R139, R141). -/
def post (p : Post) (s : State) : State := s.withEq (postTo s.eq (cycleField s) p)

/-- One of the orders of a list, chosen by a number: every order of n things is the choice of some
number below n factorial. -/
def arrange {α : Type} : Nat → List α → List α
  | _, [] => []
  | k, x :: xs => (arrange (k / (xs.length + 1)) xs).insertIdx (k % (xs.length + 1)) x

/-- The posts of a list, in its order. -/
def postList (ps : List Post) (s : State) : State := ps.foldl (fun t p => post p t) s

/-- Each group of a list put into an order of its own. -/
def arrangeEach : Nat → List (List Post) → List (List Post)
  | _, [] => []
  | k, g :: gs => arrange (Config.freeOrder k) g :: arrangeEach (k + 1) gs

/-- The posts that reach the Event Queue at one instant, in groups: taken one after the other, in either order
(R141), those of one group next to each other, so that they take consecutive sequence numbers (R80). Where there is
at most one post, there is no choice. -/
def postTogether (gs : List (List Post)) (s : State) : State :=
  if gs.flatten.length ≤ 1 then postList gs.flatten s
  else
    postList (arrange (Config.freeOrder s.freeCount) (arrangeEach (s.freeCount + 1) gs)).flatten
      (s.withFreeCount (s.freeCount + 1 + gs.length))

/-- Posts that no rule keeps next to each other: each is a group of its own. -/
def apart (ps : List Post) : List (List Post) := ps.map fun p => [p]

end Sys2Proof.Machine
end

