-- ==== Sys2Proof/Machine/Counters.lean ====
section
/-!
DEFINITION. The Counter Block: the snapshot, the deferred capture, and the requests CAPTURE and
READ_COUNTERS (spec/11 R163 to R168).
-/

namespace Sys2Proof.Machine

/-- A reply without data. -/
def bare (st : Status) : Reply := { status := st, data := [] }

/-- Every live counter at 0. -/
def zeroCounters (s : State) : State := s.withCb { s.cb with live := Vector.replicate 24 0 }

/-- A snapshot (R164): the record takes the live counters, the current cycle number and the next capture
number; then the live counters are cleared if clear-on-capture is on. -/
def snapshot (s : State) : State :=
  s.withCb { s.cb with
    capture := { number := s.cb.capture.number + 1, cycle := s.ct.cycle, values := s.cb.live }
    live := if s.me.node.clearOnCapture then Vector.replicate 24 0 else s.cb.live }

/-- The deferred capture returned to IDLE; its cycle is kept. -/
def disarmCapture (s : State) : State :=
  s.withCb { s.cb with deferred := { s.cb.deferred with armed := false } }

/-- Whether a header notice takes the deferred capture's snapshot (R167). -/
def captureDue (c : CounterBlock) (n : Byte) (jump : Bool) : Bool :=
  c.deferred.armed && !jump && decide (n = c.deferred.cycle)

/-- CB's work on a header notice (R167), with the increments CT makes at the same character, which reach
the counters before or after the snapshot in either order (R164). The posts are handed back, to be
taken together with those of the other blocks (R141). -/
def captureNotice (n : Byte) (jump : Bool) (incs : List CounterIx) (s : State) : State × List Post :=
  if captureDue s.cb n jump then
    let t := disarmCapture (countRacing incs snapshot s)
    (t, [{ kind := .captureDone, detail := [t.cb.capture.number] }])
  else
    let t := countAll incs s
    if s.cb.deferred.armed && jump then
      (disarmCapture t, [{ kind := .captureAbandoned, detail := [0x01] }])
    else (t, [])

/-- CB's work on a lock-lost notice (R167). -/
def captureLockLost (s : State) : State × List Post :=
  if s.cb.deferred.armed then (disarmCapture s, [{ kind := .captureAbandoned, detail := [0x02] }])
  else (s, [])

/-- CB at RESTART (R163, R164, R167): the live counters and the capture record zeroed, the deferred
capture IDLE with C 0. -/
def counterRestart (s : State) : State :=
  s.withCb CounterBlock.reset

/-- Whether cycle C is in the future by lo..hi from the current cycle number (R7); no distance can be
taken while there is no current cycle number. -/
def cycleAhead (s : State) (c : Byte) (lo hi : Nat) : Bool :=
  match s.ct.cycle with
  | some n => decide (lo ≤ distance n c ∧ distance n c ≤ hi)
  | none => false

/-- CAPTURE with mode NOW (R165). -/
def captureNowOwner (s : State) : Reply × State :=
  let t := snapshot s
  ({ status := .ok, data := [t.cb.capture.number] }, t)

/-- CAPTURE with mode AT_CYCLE (R166): three checks in order, then ARMED with cycle C. -/
def captureAtOwner (c : Byte) (s : State) : Reply × State :=
  if !lockedNotCoasting s then (bare .notLocked, s)
  else if !cycleAhead s c 1 127 then (bare .badCycle, s)
  else if s.cb.deferred.armed then (bare .busy, s)
  else (bare .accepted, s.withCb { s.cb with deferred := { armed := true, cycle := c } })

/-- CAPTURE (R165): the mode byte 00h is NOW and 01h AT_CYCLE. -/
def captureOwner (r : Request) (s : State) : Reply × State :=
  if r.param 0 = 0x00 then captureNowOwner s else captureAtOwner (r.param 1) s

/-- READ_COUNTERS (R168): the capture number, the presence byte, the capture cycle, then n values. -/
def readCountersOwner (r : Request) (s : State) : Reply × State :=
  let c := s.cb.capture
  let vals := (c.values.toList.drop (r.param 0).toNat).take (r.param 1).toNat
  ({ status := .ok,
     data := [c.number, boolByte c.cycle.isSome, c.cycle.getD 0] ++ vals.flatMap (fun w => [hiByte w, loByte w]) }, s)

end Sys2Proof.Machine
end

