-- ==== Sys2Proof/Machine/Branches.lean ====
section
/-!
DEFINITION. The Branch Units: the queues, the transmitter, the receiver, the insert side, the error
policy, the overrun reports and the branch requests (spec/04 R58, R59; spec/06 R83 to R101).
-/

namespace Sys2Proof.Machine

/-- A branch's unit with one change. -/
def onBranch (b : BranchNo) (f : Branch → Branch) (s : State) : State := s.withBranch b (f s.bu[b])

/-! ### Queues and flags (R86, R93) -/

/-- The insert side after it becomes FILLING: FLOWING at once where the start level is 0 (R58). -/
def fillingSide (c : BranchConfig) : InsertSide := if c.startLevel = 0 then .flowing else .filling

/-- A transmitter that is free takes the oldest byte of its drop queue (R88). The drop-reported flag
clears where the queue becomes empty (R93). -/
def popDrop (x : Branch) : Branch :=
  match x.dropQueue with
  | [] => { x with sending := none }
  | v :: rest =>
    { x with sending := some v, dropQueue := rest, dropReported := x.dropReported && !rest.isEmpty }

/-- A drop push that finds room (R87): the byte is stored, and an IDLE transmitter takes the oldest
byte at once. -/
def storeDrop (v : Byte) (x : Branch) : Branch :=
  let y := { x with dropQueue := x.dropQueue ++ [v] }
  match x.sending with
  | none => popDrop y
  | some _ => y

/-- A drop discard (R87, R93): counted, and reported where the flag is clear. -/
def discardDrop (b : BranchNo) (s : State) : State :=
  let t := count (cntDropDiscards b) s
  if s.bu[b].dropReported then t
  else onBranch b (fun x => { x with dropReported := true })
    (post { kind := .dropOverrun, detail := [natByte b.val] } t)

/-- A drop push offered to branch b, which is enabled (R87). -/
def pushDrop (b : BranchNo) (v : Byte) (s : State) : State :=
  if queueFull s.bu[b].dropQueue then discardDrop b s else onBranch b (storeDrop v) s

/-- An insert push that finds room (R90): stored, and a FILLING side becomes FLOWING at the push that
brings the depth to the insert start level (R58). -/
def storeInsert (v : Byte) (x : Branch) : Branch :=
  { x with
    insertQueue := x.insertQueue ++ [v]
    side := if x.side = .filling ∧ x.insertQueue.length + 1 = x.config.startLevel then .flowing else x.side }

/-- An insert pop on an enabled branch (R59): the byte taken, none where the output is the fill byte. -/
def popInsert (b : BranchNo) (s : State) : Option Byte × State :=
  match s.bu[b].side with
  | .filling => (none, s)
  | .flowing =>
    match s.bu[b].insertQueue with
    | v :: rest =>
      (some v, onBranch b (fun x =>
        { x with insertQueue := rest, insertReported := x.insertReported && !rest.isEmpty }) s)
    | [] => (none, onBranch b (fun x => { x with side := fillingSide x.config }) (count (cntStarved b) s))

/-! ### Receiver (R89 to R92) -/

/-- What the receiver does with a complete character (R90 to R92): it pushes a good one, discards it where the
queue is full or the receiver is in HOLD, counts a bad one, and is held by a bad one under HOLD policy. -/
inductive Received where
  | pushed (v : Byte)
  | discarded
  | counted
  | held
  deriving DecidableEq, Repr

/-- The receiver's judgement of a character, from its value where it is good (R90 to R92). -/
def Branch.judge (x : Branch) (v : Option Byte) : Received :=
  match x.receiver, v with
  | .run, some byte => if queueFull x.insertQueue then .discarded else .pushed byte
  | .hold, some _ => .discarded
  | .hold, none => .counted
  | .run, none =>
    match x.config.policy with
    | .discard => .counted
    | .hold => .held

/-- The increments a complete character makes (R90 to R92, R101). -/
def Received.counts (b : BranchNo) : Received → List CounterIx
  | .pushed _ => []
  | .discarded => [cntInsertDiscards b]
  | .counted => [cntReceiveErrors b]
  | .held => [cntReceiveErrors b]

/-- The posts a complete character makes (R91, R93): an insert discard is reported where the flag is clear. -/
def Received.posts (b : BranchNo) (x : Branch) : Received → List Post
  | .pushed _ => []
  | .discarded => if x.insertReported then [] else [{ kind := .insertOverrun, detail := [natByte b.val] }]
  | .counted => []
  | .held => [{ kind := .branchHold, detail := [natByte b.val] }]

/-- The branch's unit after a complete character (R90 to R93). -/
def Received.apply : Received → Branch → Branch
  | .pushed v, x => storeInsert v x
  | .discarded, x => { x with insertReported := true }
  | .counted, x => x
  | .held, x => { x with receiver := .hold }

/-- A complete character taken by the receiver, by its judgement: the value of a good one, none for a
bad one (R90 to R92). -/
def receiveJudged (b : BranchNo) (v : Option Byte) (s : State) : State :=
  let j := s.bu[b].judge v
  onBranch b j.apply (postList (j.posts b s.bu[b]) (countAll (j.counts b) s))

/-- A character complete at its stop bit (R89): the line state follows the stop sample, and the
character is handed to the receiver. -/
def branchComplete (b : BranchNo) (ch : BranchBits) (s : State) : State :=
  receiveJudged b (branchValue s.bu[b].config ch)
    (onBranch b (fun x => { x with line := if ch.stop then .waitStart else .waitHigh }) s)

/-- Branch b's receiver follows the line, and its line state is l (R83, R89). -/
abbrev lineIs (b : BranchNo) (l : ReceiverLine) (s : State) : Prop :=
  s.inReset = false ∧ s.bu[b].enabled = true ∧ s.bu[b].line = l

/-! ### Characters that complete at the instant of RESTART (R96, R136, R147, R163) -/

/-- The branch characters whose completion waits right behind the command under way, each branch once: they may fall
at its instant (log entry 22). -/
def completionsBehind : List BranchNo → List Instr → List (BranchNo × BranchBits)
  | seen, .branchCharacterComplete b ch :: rest =>
    if b ∈ seen then [] else (b, ch) :: completionsBehind (b :: seen) rest
  | _, _ => []

/-- Those of them that a receiver takes in this state (R89). -/
def racingCompletions (s : State) : List (BranchNo × BranchBits) :=
  (completionsBehind [] s.pending).filter fun p => decide (lineIs p.1 .receiving s)

/-- What the receiver does with one of them. -/
def racingReceived (s : State) (p : BranchNo × BranchBits) : Received :=
  s.bu[p.1].judge (branchValue s.bu[p.1].config p.2)

/-- The increments they make (R163). -/
def racingCounts (s : State) : List CounterIx :=
  (racingCompletions s).flatMap fun p => (racingReceived s p).counts p.1

/-- The posts they make (R147). -/
def racingPosts (s : State) : List Post :=
  (racingCompletions s).flatMap fun p => (racingReceived s p).posts p.1 s.bu[p.1]

/-! ### Enable, disable, hold, flush (R96 to R98) -/

/-- ENABLE (R96). -/
def enableBranch (x : Branch) : Branch :=
  if x.enabled then x
  else { x with
    enabled := true, receiver := .run, line := .waitHigh, sending := none, dropQueue := [], insertQueue := [],
    dropReported := false, insertReported := false, side := fillingSide x.config }

/-- What RESTART and a hard reset do to a branch, enabled or not: all at the values of R83, the
configuration record kept (R96). -/
def stopBranch (x : Branch) : Branch := Branch.disabledWith x.config

/-- DISABLE (R96): an enabled branch is stopped; on a disabled one nothing changes. -/
def disableBranch (x : Branch) : Branch := if x.enabled then stopBranch x else x

/-- CLEAR_HOLD (R97). -/
def clearHoldBranch (x : Branch) : Branch := if x.enabled then { x with receiver := .run } else x

/-- FLUSH_DROP (R98). -/
def flushDropBranch (x : Branch) : Branch := { x with dropQueue := [], dropReported := false }

/-- FLUSH_INSERT (R98). -/
def flushInsertBranch (x : Branch) : Branch :=
  { x with insertQueue := [], insertReported := false,
           side := if x.enabled then fillingSide x.config else .filling }

/-! ### Requests -/

/-- The branch a request names in its first parameter byte. -/
def requestBranch (r : Request) : BranchNo := ⟨(r.param 0).toNat % 4, Nat.mod_lt _ (by decide)⟩

/-- The actions of BRANCH_CONTROL (R95). -/
inductive BranchAction where
  | enable
  | disable
  | clearHold
  | flushDrop
  | flushInsert
  deriving DecidableEq, Repr

def BranchAction.code : BranchAction → Byte
  | .enable => 0x01
  | .disable => 0x02
  | .clearHold => 0x03
  | .flushDrop => 0x04
  | .flushInsert => 0x05

/-- The action a code names, none for any other code (R95). -/
def actionOfByte (v : Byte) : Option BranchAction :=
  [BranchAction.enable, .disable, .clearHold, .flushDrop, .flushInsert].find? fun a => a.code = v

/-- What each action does to its branch (R96 to R98). -/
def BranchAction.apply : BranchAction → Branch → Branch
  | .enable => enableBranch
  | .disable => disableBranch
  | .clearHold => clearHoldBranch
  | .flushDrop => flushDropBranch
  | .flushInsert => flushInsertBranch

/-- BRANCH_CONTROL (R95): never refused for the state the branch is in. -/
def branchControlOwner (r : Request) (s : State) : Reply × State :=
  match actionOfByte (r.param 1) with
  | some a => (bare .ok, onBranch (requestBranch r) a.apply s)
  | none => (bare .badParam, s)

/-- BRANCH_SET (R99): refused BRANCH_ENABLED while the branch is enabled. -/
def branchSetOwner (r : Request) (s : State) : Reply × State :=
  if s.bu[requestBranch r].enabled then (bare .branchEnabled, s)
  else
    match branchConfigOfBytes (r.params.drop 1) with
    | some c => (bare .ok, onBranch (requestBranch r) (fun x => { x with config := c }) s)
    | none => (bare .badParam, s)

/-- The reply data of BRANCH_GET (R100). -/
def branchGetData (x : Branch) : List Byte :=
  x.config.bytes ++
    [boolByte x.enabled,
     match x.receiver with
     | .run => 0x00
     | .hold => 0x01,
     match x.side with
     | .filling => 0x00
     | .flowing => 0x01,
     natByte x.dropQueue.length, natByte x.insertQueue.length,
     (if x.dropReported then 0x01 else 0x00) ||| (if x.insertReported then 0x02 else 0x00)]

/-- BRANCH_GET (R100). -/
def branchGetOwner (r : Request) (s : State) : Reply × State :=
  ({ status := .ok, data := branchGetData s.bu[requestBranch r] }, s)

end Sys2Proof.Machine
end

