-- ==== Sys2Proof/Machine/BranchRows.lean ====
section
/-!
DEFINITION. The meanings of the rows that happen on a branch line (spec/06 R88, R89). Each happens only on an
enabled branch, in the line or transmitter state the rule names, and not while a hard reset lasts (R83, R172);
otherwise nothing happens on the line (log entry 4).
-/

namespace Sys2Proof.Machine

/-- The state with branch b's receiver line state set. -/
def setLine (b : BranchNo) (l : ReceiverLine) (s : State) : State := onBranch b (fun x => { x with line := l }) s

/-- BRANCH_CHARACTER_COMPLETE (R89 to R92). -/
def execBranchCharacterComplete (b : BranchNo) (ch : BranchBits) (s : State) : Host.Outcome State Fault Refusal :=
  .next (if lineIs b .receiving s then branchComplete b ch s else s)

/-- BRANCH_FALSE_START (R89): the line state returns to WAIT_START and nothing is counted. -/
def execBranchFalseStart (b : BranchNo) (s : State) : Host.Outcome State Fault Refusal :=
  .next (if lineIs b .receiving s then setLine b .waitStart s else s)

/-- BRANCH_CHARACTER_SENT (R88): the transmitter pops the next byte or becomes IDLE. -/
def execBranchCharacterSent (b : BranchNo) (s : State) : Host.Outcome State Fault Refusal :=
  .next (if s.inReset = false ∧ s.bu[b].enabled = true ∧ s.bu[b].sending.isSome = true then onBranch b popDrop s else s)

/-- BRANCH_LINE_HIGH (R89). -/
def execBranchLineHigh (b : BranchNo) (s : State) : Host.Outcome State Fault Refusal :=
  .next (if lineIs b .waitHigh s then setLine b .waitStart s else s)

/-- BRANCH_START_FALL (R89). -/
def execBranchStartFall (b : BranchNo) (s : State) : Host.Outcome State Fault Refusal :=
  .next (if lineIs b .waitStart s then setLine b .receiving s else s)

end Sys2Proof.Machine
end

