-- ==== Sys2Proof/Machine/Events.lean ====
section
/-!
DEFINITION. The Event Queue's requests, POLL and ACK (spec/09 R142 to R145); posting stands in Ops.
-/

namespace Sys2Proof.Machine

/-- The bytes of the oldest records, each whole, for as long as the next one fits in the room left; no
later record is sent after one that does not fit (R142). -/
def pollRecords : Nat → List EventRecord → List Byte
  | _, [] => []
  | room, e :: rest =>
    if e.bytes.length ≤ room then e.bytes ++ pollRecords (room - e.bytes.length) rest else []

/-- POLL (R142): the number of entries, then the records that fit within R. The list is unchanged. -/
def pollOwner (r : Request) (s : State) : Reply × State :=
  ({ status := .ok, data := natByte s.eq.events.length :: pollRecords (r.room - 1) s.eq.events }, s)

/-- The entries newer than the one with a sequence, none where no entry carries it (R144). -/
def newerThan (sequence : Byte) : List EventRecord → Option (List EventRecord)
  | [] => none
  | e :: rest => if e.sequence = sequence then some rest else newerThan sequence rest

/-- ACK (R144): the named entry and every older one are removed, or BAD_PARAM where it is not found. -/
def ackOwner (r : Request) (s : State) : Reply × State :=
  match newerThan (r.param 0) s.eq.events with
  | some rest => (bare .ok, s.withEq { s.eq with events := rest })
  | none => (bare .badParam, s)

end Sys2Proof.Machine
end

