-- ==== Sys2Proof/Machine/PatternTest.lean ====
section
/-!
DEFINITION. The Pattern Unit: the pattern registers, the generator, the checker with its seek and its
window, the run record, and the test requests (spec/10 R148 to R162).
-/

namespace Sys2Proof.Machine

/-! ### Patterns (R149, R150) -/

/-- One shift of an n-stage register with stages n and k fed back; stage i is bit i - 1 (R149). -/
def lfsrShift {n : Nat} (k : Nat) (r : BitVec n) : BitVec n :=
  (r <<< 1) ||| (BitVec.ofBool (xor (r.getLsbD (n - 1)) (r.getLsbD (k - 1)))).setWidth n

/-- Eight shifts. The output bits, first in bit 7, are then the low eight stages (R149). -/
def lfsrByte {n : Nat} (k : Nat) (r : BitVec n) : BitVec n := Nat.repeat (lfsrShift k) 8 r

/-- The next pattern byte of a register, and the register advanced by it (R149, R150). A WORD register holds the half
that comes next, in the generator and in the checker (log entry 24). -/
def nextByte (word : Word16) : PatternRegister → Byte × PatternRegister
  | .prbs9 r =>
    let r' := lfsrByte 5 r
    (r'.setWidth 8, .prbs9 r')
  | .prbs15 r =>
    let r' := lfsrByte 14 r
    (r'.setWidth 8, .prbs15 r')
  | .count v => (v, .count (v + 1))
  | .word high => (if high then hiByte word else loByte word, .word (!high))

/-- The generator's start value (R151). -/
def startRegister : Pattern → PatternRegister
  | .prbs9 => .prbs9 0x1FF
  | .prbs15 => .prbs15 0x7FFF
  | .count => .count 0
  | .word => .word true

/-! ### The checker (R152 to R156) -/

/-- The checker in SEEK with its seek progress and window cleared (R152), and its register (R155, R156). That a TEST_SET
which moves it to SEEK clears the register too is the model's choice (log entry 23). -/
def toSeek (p : PatternUnit) : PatternUnit :=
  { p with checker := .seek, checkerRegister := none, progress := .empty, window := [] }

/-- The checker LOCKED on a register, window empty (R152). The spec does not say what the seek progress holds then: the
model empties it, its own choice, which nothing reads while LOCKED (log entry 21). -/
def toLocked (p : PatternUnit) (r : PatternRegister) : PatternUnit :=
  { p with checker := .locked, checkerRegister := some r, progress := .empty, window := [] }

/-- The register two seed bytes load: the last n of their sixteen bits in line order, stage 1 the last
(R153); none where it would be all zeros. -/
def seedRegister (pat : Pattern) (b1 b2 : Byte) : Option PatternRegister :=
  match pat with
  | .prbs9 =>
    let r : BitVec 9 := (word16 b1 b2).setWidth 9
    if r = 0 then none else some (.prbs9 r)
  | .prbs15 =>
    let r : BitVec 15 := (word16 b1 b2).setWidth 15
    if r = 0 then none else some (.prbs15 r)
  | .count => none
  | .word => none

/-- Seeding at a second seed byte, or afresh from two proof bytes (R153). Where the load is refused, the rule says only
that the register is not loaded: that the one in force after a failed proof is cleared is the model's choice (log
entry 23). -/
def loadSeeds (p : PatternUnit) (b1 b2 : Byte) : PatternUnit :=
  match seedRegister p.config.checkerPattern b1 b2 with
  | some r => { p with checkerRegister := some r, progress := .loaded }
  | none => { p with checkerRegister := none, progress := .seed b2 }

/-- A mismatch element in SEEK clears the seek progress, and with a PRBS pattern the register (R153, R154). That COUNT and
WORD clear the register too is the model's choice (log entry 23). -/
def clearSeek (p : PatternUnit) : PatternUnit := { p with checkerRegister := none, progress := .empty }

/-- A byte taken in SEEK with a PRBS pattern (R153). -/
def seekPrbs (p : PatternUnit) (v : Byte) : PatternUnit :=
  match p.progress, p.checkerRegister with
  | .seed b, _ => loadSeeds p b v
  | .loaded, some r =>
    let (predicted, r') := nextByte p.config.word r
    { p with progress := .proof v predicted, checkerRegister := some r' }
  | .proof received predicted, some r =>
    let (second, r') := nextByte p.config.word r
    if received = predicted ∧ v = second then toLocked p r' else loadSeeds p received v
  | _, _ => { p with progress := .seed v }

/-- A byte taken as the COUNT seed: the next value is predicted (R154). -/
def seedCount (p : PatternUnit) (v : Byte) : PatternUnit :=
  { p with checkerRegister := some (.count (v + 1)), progress := .loaded }

/-- A byte judged as a candidate to align the WORD register (R154). The register is held as R150 reads it, by the half
that comes next: a high byte, which R154 says aligns it at HIGH, leaves it at LOW, the half predicted, and a low byte
leaves it at HIGH (log entry 24). A byte equal to neither clears the register (log entry 23). -/
def alignWord (p : PatternUnit) (v : Byte) : PatternUnit :=
  if v = hiByte p.config.word then { p with checkerRegister := some (.word false), progress := .loaded }
  else if v = loByte p.config.word then { p with checkerRegister := some (.word true), progress := .loaded }
  else clearSeek p

/-- A byte taken in SEEK with COUNT or WORD: `take` seeds or aligns with a byte (R154). -/
def seekByte (take : PatternUnit → Byte → PatternUnit) (p : PatternUnit) (v : Byte) : PatternUnit :=
  match p.progress, p.checkerRegister with
  | .loaded, some r =>
    let (predicted, r') := nextByte p.config.word r
    if v = predicted then toLocked p r' else take p v
  | _, _ => take p v

/-- One element in SEEK: a byte value, or none for a mismatch (R153, R154). -/
def seekElement (p : PatternUnit) : Option Byte → PatternUnit
  | none => clearSeek p
  | some v =>
    match p.config.checkerPattern with
    | .prbs9 => seekPrbs p v
    | .prbs15 => seekPrbs p v
    | .count => seekByte seedCount p v
    | .word => seekByte alignWord p v

/-- The window with one result appended; the oldest is dropped when it then holds nine (R155). -/
def slideWindow (w : List Bool) (mismatch : Bool) : List Bool :=
  let w' := w ++ [mismatch]
  if 8 < w'.length then w'.drop 1 else w'

/-- A saturating resync count (R155). -/
def satIncByte (v : Byte) : Byte := if v = 0xFF then v else v + 1

/-- Whether an element is a mismatch against the byte a LOCKED checker predicts (R155). -/
def isMismatch (word : Word16) (r : PatternRegister) (e : Option Byte) : Bool :=
  decide (e ≠ some (nextByte word r).1)

/-- The element judged: the result in the window, the register advanced by the predicted byte, the
counts advanced while RUNNING (R155). -/
def judged (p : PatternUnit) (r : PatternRegister) (e : Option Byte) : PatternUnit :=
  let mm := isMismatch p.config.word r e
  { p with
    checkerRegister := some (nextByte p.config.word r).2
    window := slideWindow p.window mm
    checked := if p.run = .running then satInc p.checked else p.checked
    errors := if p.run = .running ∧ mm then satInc p.errors else p.errors }

/-- Whether a judged element brings the window's mismatches to the threshold (R155). -/
def resyncDue (p : PatternUnit) : Bool := decide (windowMismatches p.window = p.config.threshold)

/-- The resync of a checker whose window reached the threshold (R155). -/
def resync (p : PatternUnit) : PatternUnit :=
  let q := toSeek p
  { q with resyncs := if p.run = .running then satIncByte p.resyncs else p.resyncs }

/-- Whether a TIMED run's checked count has been brought to its length (R157). -/
def lengthReached (p : PatternUnit) : Bool :=
  decide (p.run = .running ∧ p.mode = .timed ∧ p.checked = p.runLength.elements)

/-- The post TEST_DONE (R157, R140). -/
def testDonePost (p : PatternUnit) : Post where
  kind := .testDone
  detail := [hiByte p.checked, loByte p.checked, hiByte p.errors, loByte p.errors, p.resyncs]

/-- One element judged in LOCKED, with the resync and then the end of a TIMED run (R155, R157). -/
def judgeElement (p : PatternUnit) (e : Option Byte) : PatternUnit × List Post :=
  match p.checkerRegister with
  | none => (p, [])
  | some r =>
    let q := judged p r e
    let q := if resyncDue q then resync q else q
    if lengthReached q then ({ q with run := .done }, [testDonePost q]) else (q, [])

/-- One element of a TEST slot taken by the checker (R152). -/
def checkElement (p : PatternUnit) (e : Option Byte) : PatternUnit × List Post :=
  match p.checker with
  | .off => (p, [])
  | .seek => (seekElement p e, [])
  | .locked => judgeElement p e

/-- PU at a lock-lost notice (R156). -/
def patternLockLost (p : PatternUnit) : PatternUnit :=
  match p.checker with
  | .off => p
  | .seek => toSeek p
  | .locked => toSeek p

/-- The generator's next byte while it is ON, and the unit with its register advanced (R151). -/
def generate (p : PatternUnit) : Option Byte × PatternUnit :=
  if p.config.generatorOn then
    let (v, r) := nextByte p.config.word p.generator
    (some v, { p with generator := r })
  else (none, p)

/-- The run record at the values of R148: RESTART (R162). -/
def clearRun (p : PatternUnit) : PatternUnit :=
  { p with run := .idle, mode := .continuous, runLength := .len256, checked := 0, errors := 0, resyncs := 0,
           stopped := false }

/-! ### Requests -/

/-- Whether a half that stays on goes on from its register: the same pattern and, for WORD, the same
word value (R158). -/
def sameStream (before after : Pattern) (w w' : Word16) : Bool :=
  decide (before = after) && (decide (after ≠ .word) || decide (w = w'))

/-- The generator's part of a TEST_SET (R158). -/
def setGenerator (c : PatternConfig) (p : PatternUnit) : PatternRegister :=
  if c.generatorOn && !(p.config.generatorOn
      && sameStream p.config.generatorPattern c.generatorPattern p.config.word c.word) then
    startRegister c.generatorPattern
  else p.generator

/-- The checker's part of a TEST_SET (R158), the new configuration stored. -/
def setChecker (c : PatternConfig) (p : PatternUnit) : PatternUnit :=
  let q := { p with config := c }
  if !c.checkerOn then { q with checker := .off, checkerRegister := none, progress := .empty, window := [] }
  else if p.config.checkerOn && sameStream p.config.checkerPattern c.checkerPattern p.config.word c.word then q
  else toSeek q

/-- A TEST_SET executed (R158). -/
def applyConfig (c : PatternConfig) (p : PatternUnit) : PatternUnit :=
  { setChecker c p with generator := setGenerator c p }

/-- TEST_SET (R158): BUSY while a run is RUNNING. -/
def testSetOwner (r : Request) (s : State) : Reply × State :=
  if s.pu.run = .running then (bare .busy, s)
  else
    match patternConfigOfBytes r.params with
    | some c => (bare .ok, s.withPu (applyConfig c s.pu))
    | none => (bare .badParam, s)

/-- The unit with a run begun (R159): counts 0, stopped flag clear, mode and length stored, window
emptied, the checker's state and register kept. -/
def startRun (m : RunMode) (l : RunLength) (p : PatternUnit) : PatternUnit :=
  { p with run := .running, mode := m, runLength := l, checked := 0, errors := 0, resyncs := 0, stopped := false,
           window := [] }

/-- TEST_START (R159). -/
def testStartOwner (r : Request) (s : State) : Reply × State :=
  if s.pu.run = .running then (bare .busy, s)
  else if !s.pu.config.checkerOn then (bare .badParam, s)
  else
    match runModeOfByte (r.param 0), runLengthOfByte (r.param 1) with
    | some m, some l =>
      (bare (if m = .timed then .accepted else .ok), s.withPu (startRun m l s.pu))
    | _, _ => (bare .badParam, s)

/-- TEST_STOP (R160). -/
def testStopOwner (s : State) : Reply × State :=
  if s.pu.run = .running then (bare .ok, s.withPu { s.pu with run := .done, stopped := true })
  else (bare .ok, s)

/-- The eighteen bytes of TEST_STATUS (R161). -/
def testStatusData (p : PatternUnit) : List Byte :=
  [p.run.code, p.mode.code, p.runLength.code, hiByte p.checked, loByte p.checked, hiByte p.errors, loByte p.errors,
   p.resyncs, boolByte p.stopped, p.checker.code, natByte (windowMismatches p.window)] ++ p.config.bytes

/-- TEST_STATUS (R161). -/
def testStatusOwner (s : State) : Reply × State :=
  ({ status := .ok, data := testStatusData s.pu }, s)

end Sys2Proof.Machine
end

