-- ==== Sys2Proof/Machine/Maps.lean ====
section
/-!
DEFINITION. The Map Unit's two maps: the map check and the five map requests (spec/03 R33 to R45), and
the fallback action's part in it (R27, R34).
-/

namespace Sys2Proof.Machine

/-- The map check of a map (R38): the CRC-16 of its length byte and the entry bytes below its length. -/
def mapCheck (m : SlotMap) : Word16 :=
  crc16 (natByte m.length :: (m.entries.toList.take m.length).map Entry.byte)

/-- The reply data of MAP_CHECK (R44), and of an ARM refused CHECK_MISMATCH (R65). -/
def mapCheckData (m : SlotMap) : List Byte :=
  [natByte m.length, hiByte (mapCheck m), loByte (mapCheck m)]

/-- Whether a map has a SERVICE entry below its length (R36). -/
def hasService (m : SlotMap) : Bool := (m.entries.toList.take m.length).contains Entry.service

/-- Consecutive entries stored from an index on; entries past index 119 do not exist and are not
stored (R41 refuses them). -/
def storeEntries (es : Vector Entry 120) (first : Nat) : List Entry → Vector Entry 120
  | [] => es
  | e :: rest => storeEntries (es.setIfInBounds first e) (first + 1) rest

/-- The state with the Pending map replaced. -/
def setPendingMap (m : SlotMap) (s : State) : State := s.withMu { s.mu with pendingMap := m }

/-- MAP_READ (R40): the bank's length, then the entry bytes. -/
def mapReadOwner (r : Request) (s : State) : Reply × State :=
  let m := if r.param 0 = 0x00 then s.mu.live else s.mu.pendingMap
  let es := (m.entries.toList.drop (r.param 1).toNat).take (r.param 2).toNat
  ({ status := .ok, data := natByte m.length :: es.map Entry.byte }, s)

/-- The entries that the entry bytes of a MAP_WRITE name, none when a byte is invalid (R41). -/
def writtenEntries (r : Request) : Option (List Entry) := (r.params.drop 1).mapM entryOfByte

/-- MAP_WRITE (R41): LOCKED while Pending is locked, else the entries are stored whole. -/
def mapWriteOwner (r : Request) (s : State) : Reply × State :=
  if pendingLocked s.mu then (bare .locked, s)
  else
    let es := (writtenEntries r).getD []
    (bare .ok, setPendingMap { s.mu.pendingMap with
      entries := storeEntries s.mu.pendingMap.entries (r.param 0).toNat es } s)

/-- MAP_LENGTH (R42). -/
def mapLengthOwner (r : Request) (s : State) : Reply × State :=
  if pendingLocked s.mu then (bare .locked, s)
  else (bare .ok, setPendingMap { s.mu.pendingMap with length := (r.param 0).toNat } s)

/-- MAP_COPY (R43). -/
def mapCopyOwner (s : State) : Reply × State :=
  if pendingLocked s.mu then (bare .locked, s)
  else (bare .ok, setPendingMap s.mu.live s)

/-- MAP_CHECK (R44). -/
def mapCheckOwner (s : State) : Reply × State :=
  ({ status := .ok, data := mapCheckData s.mu.pendingMap }, s)

/-- Whether a map differs from the bootstrap map, at any of its 120 indices or in its length (R27, R34). -/
def mapsDiffer (m : MapUnit) : Bool :=
  decide (m.live ≠ SlotMap.bootstrap ∨ m.pendingMap ≠ SlotMap.bootstrap)

/-- Both maps loaded with the bootstrap map, the switch record left as it stands (R27, R75). -/
def loadBootstrap (m : MapUnit) : MapUnit :=
  { m with live := SlotMap.bootstrap, pendingMap := SlotMap.bootstrap }

end Sys2Proof.Machine
end

