-- ==== Sys2Proof/Machine/Switch.lean ====
section
/-!
DEFINITION. The Map Unit's switch: the moving rule, firing, the guard, the early endings, and the
requests ARM, DISARM and SWITCH_STATUS (spec/05 R62 to R82).
-/

namespace Sys2Proof.Machine

/-! ### Which indices move (R67, R68) -/

/-- All five owner groups. -/
def allGroups : BitVec 5 := 0x1F

/-- The owner group of a Live entry for the moving rule: T at and beyond the length L (R67). -/
def liveOwner (m : MapUnit) (s : SlotIx) : Option Nat :=
  if m.live.length ≤ s.val then some 4 else m.live.entries[s].group

/-- Whether index s is tested by the moving rule (R67). -/
def tested (m : MapUnit) (s : SlotIx) : Bool :=
  decide (s.val < max m.live.length m.pendingMap.length)

/-- Whether index s moves: the owner groups of its Live and its Pending entry are both in S (R67). -/
def moves (m : MapUnit) (set : BitVec 5) (s : SlotIx) : Bool :=
  tested m s && groupIn set (liveOwner m s) && groupIn set m.pendingMap.entries[s].group

/-- L', the length after the switch (R68). -/
def mergedLength (m : MapUnit) (set : BitVec 5) : Nat :=
  if set = allGroups then m.pendingMap.length else m.live.length

/-- The merged result (R68): the Live map with each moving index replaced by its Pending entry. -/
def merged (m : MapUnit) (set : BitVec 5) : SlotMap where
  length := mergedLength m set
  entries := Vector.ofFn fun s : SlotIx => if moves m set s then m.pendingMap.entries[s] else m.live.entries[s]

/-- Whether the Live and the Pending entry of index s differ. -/
def entriesDiffer (m : MapUnit) (s : SlotIx) : Bool :=
  decide (m.live.entries[s] ≠ m.pendingMap.entries[s])

/-- The guard test (R68): a moving index below L' at which a branch acquires a slot it did not hold,
while G is greater than 0. -/
def guardedIndex (m : MapUnit) (set : BitVec 5) (g : Byte) (s : SlotIx) : Bool :=
  moves m set s && decide (s.val < mergedLength m set) && decide (g ≠ 0)
    && m.pendingMap.entries[s].branch.elim false fun b => decide (m.live.entries[s].branch ≠ some b)

/-- The number of indices a test holds at. -/
def countIndices (p : SlotIx → Bool) : Nat := (List.finRange 120).countP p

def movedCount (m : MapUnit) (set : BitVec 5) : Nat :=
  countIndices fun s => moves m set s && entriesDiffer m s

def heldCount (m : MapUnit) (set : BitVec 5) : Nat :=
  countIndices fun s => tested m s && !moves m set s && entriesDiffer m s

def guardedCount (m : MapUnit) (set : BitVec 5) (g : Byte) : Nat := countIndices (guardedIndex m set g)

/-! ### Firing and ending -/

/-- The Live map right after firing (R70): GUARD at each guarded index, the Pending entry at every other
moving index, the Live entry at the rest, with length L'. -/
def firedMap (m : MapUnit) (set : BitVec 5) (g : Byte) : SlotMap where
  length := mergedLength m set
  entries := Vector.ofFn fun s : SlotIx =>
    if guardedIndex m set g s then Entry.guard
    else if moves m set s then m.pendingMap.entries[s] else m.live.entries[s]

/-- The Live map when a guard ends or is completed: each guarded index takes its Pending entry. The
guarded indices are those that hold GUARD, which stands nowhere else (R30, R71). -/
def guardFinished (m : MapUnit) : SlotMap :=
  { m.live with
    entries := Vector.ofFn fun s : SlotIx =>
      if m.live.entries[s] = Entry.guard then m.pendingMap.entries[s] else m.live.entries[s] }

/-- The record of a switch that has ended (R63). -/
def endRecord (r : SwitchRecord) (o : SwitchOutcome) (why : OutcomeReason) : SwitchRecord :=
  { r with state := .idle, outcome := o, reason := why, outcomeSwitch := r.cycle, outcomeCycle := r.lastHeader }

/-- The post SWITCH_DONE (R80, R140). -/
def switchDonePost (r : SwitchRecord) (lockLost : Bool) : Post where
  kind := .switchDone
  detail := [r.cycle, natByte r.moved, natByte r.held, natByte r.guarded, boolByte lockLost]

/-- The post SWITCH_ABANDONED (R80, R140). -/
def switchAbandonedPost (r : SwitchRecord) (why : OutcomeReason) : Post where
  kind := .switchAbandoned
  detail := [r.cycle, why.code]

/-- A GUARDING switch completed: Live takes the guarded Pending entries and the outcome is DONE. -/
def completeGuard (m : MapUnit) (why : OutcomeReason) : MapUnit :=
  { m with live := guardFinished m, switch := endRecord m.switch .done why }

/-- An ARMED switch abandoned, Live unchanged. -/
def abandonSwitch (m : MapUnit) (why : OutcomeReason) : MapUnit :=
  { m with switch := endRecord m.switch .abandoned why }

/-- The switch fired at its header (R70): with no guarded index it ends there, else it is GUARDING. -/
def fireSwitch (m : MapUnit) : MapUnit × List Post :=
  let r := m.switch
  let live := firedMap m r.groups r.guardLength
  if guardedCount m r.groups r.guardLength = 0 then
    ({ m with live := live, switch := endRecord r .done .none }, [switchDonePost r false])
  else ({ m with live := live, switch := { r with state := .guarding } }, [])

/-- MU's record of a header notice's number, made before any other work on the notice (R62). -/
def recordHeader (m : MapUnit) (n : Byte) : MapUnit :=
  { m with switch := { m.switch with lastHeader := some n } }

/-- Whether a header notice fires the switch (R69). -/
def fireDue (m : MapUnit) (n : Byte) (jump : Bool) : Bool :=
  decide (m.switch.state = .armed) && !jump && decide (n = m.switch.cycle)

/-- Whether a header notice ends the guard (R71). -/
def guardEndDue (m : MapUnit) (n : Byte) (jump : Bool) : Bool :=
  decide (m.switch.state = .guarding) && !jump && decide (n = m.switch.guardEnd)

/-- Whether a jump notice abandons the switch (R72). -/
def abandonDue (m : MapUnit) (jump : Bool) : Bool := decide (m.switch.state = .armed) && jump

/-- Whether a jump notice completes the guard: its distance from C is G or more (R73). -/
def jumpCompleteDue (m : MapUnit) (n : Byte) (jump : Bool) : Bool :=
  decide (m.switch.state = .guarding) && jump
    && decide (m.switch.guardLength.toNat ≤ distance m.switch.cycle n)

/-- MU's work on a header notice (R69 to R73). -/
def switchNotice (n : Byte) (jump : Bool) (m₀ : MapUnit) : MapUnit × List Post :=
  let m := recordHeader m₀ n
  if fireDue m n jump then fireSwitch m
  else if guardEndDue m n jump || jumpCompleteDue m n jump then
    (completeGuard m .none, [switchDonePost m.switch false])
  else if abandonDue m jump then
    (abandonSwitch m .cycleJump, [switchAbandonedPost m.switch .cycleJump])
  else (m, [])

/-- MU's work on a lock-lost notice (R74). -/
def switchLockLost (m : MapUnit) : MapUnit × List Post :=
  match m.switch.state with
  | .idle => (m, [])
  | .armed => (abandonSwitch m .lockLost, [switchAbandonedPost m.switch .lockLost])
  | .guarding => (completeGuard m .lockLost, [switchDonePost m.switch true])

/-- MU at RESTART (R76); nothing is posted. -/
def switchRestart (m : MapUnit) : MapUnit :=
  match m.switch.state with
  | .idle => m
  | .armed => abandonSwitch m .restart
  | .guarding => completeGuard m .none

/-! ### Requests -/

/-- The group set of an ARM: bits 4..0 of its first parameter byte (R64). -/
def armGroups (r : Request) : BitVec 5 := (r.param 0).setWidth 5

/-- The map check an ARM expects (R64). -/
def armCheck (r : Request) : Word16 := word16 (r.param 2) (r.param 3)

/-- The record an accepted ARM fills (R66). -/
def armedRecord (r : Request) (g : Byte) (m : MapUnit) : SwitchRecord :=
  { m.switch with
    state := .armed, cycle := r.param 1, groups := armGroups r, guardLength := g, guardEnd := r.param 1 + g,
    moved := movedCount m (armGroups r), held := heldCount m (armGroups r),
    guarded := guardedCount m (armGroups r) g, armingTag := r.session }

/-- ARM (R65, R66): seven checks in order, the first that fails giving the reply. -/
def armOwner (r : Request) (s : State) : Reply × State :=
  if s.mu.switch.state ≠ .idle then (bare .busy, s)
  else if !lockedNotCoasting s then (bare .notLocked, s)
  else if armGroups r = 0 then (bare .badParam, s)
  else if !cycleAhead s (r.param 1) 2 127 then (bare .badCycle, s)
  else if s.mu.pendingMap.length ≠ s.mu.live.length ∧ armGroups r ≠ allGroups then (bare .lengthNeedsFull, s)
  else if armCheck r ≠ mapCheck s.mu.pendingMap then
    ({ status := .checkMismatch, data := mapCheckData s.mu.pendingMap }, s)
  else if !hasService (merged s.mu (armGroups r)) then (bare .noService, s)
  else
    let rec' := armedRecord r s.me.node.guardLength s.mu
    ({ status := .accepted, data := [natByte rec'.moved, natByte rec'.held, natByte rec'.guarded] },
     s.withMu { s.mu with switch := rec' })

/-- The outcome cycle as it is reported: 0 while the last outcome is NONE (R78, R81). -/
def reportedOutcomeCycle (r : SwitchRecord) : Byte :=
  if r.outcome = .none then 0 else r.outcomeCycle.getD 0

/-- The reply data of DISARM (R78). -/
def disarmData (r : SwitchRecord) : List Byte :=
  [r.state.code, r.outcome.code, r.reason.code, r.outcomeSwitch, reportedOutcomeCycle r]

/-- DISARM (R78): an ARMED switch is cancelled; otherwise TOO_LATE. The data is taken after the action. -/
def disarmOwner (s : State) : Reply × State :=
  if s.mu.switch.state = .armed then
    let r := endRecord s.mu.switch .cancelled .none
    ({ status := .ok, data := disarmData r }, s.withMu { s.mu with switch := r })
  else ({ status := .tooLate, data := disarmData s.mu.switch }, s)

/-- The thirteen bytes of SWITCH_STATUS (R81). -/
def switchStatusData (r : SwitchRecord) : List Byte :=
  [r.state.code, r.cycle, r.groups.setWidth 8, r.guardLength, r.guardEnd, natByte r.moved, natByte r.held,
   natByte r.guarded, r.armingTag, r.outcome.code, r.reason.code, r.outcomeSwitch, reportedOutcomeCycle r]

/-- SWITCH_STATUS (R81). -/
def switchStatusOwner (s : State) : Reply × State :=
  ({ status := .ok, data := switchStatusData s.mu.switch }, s)

end Sys2Proof.Machine
end

