-- ==== Sys2Proof/Machine/Management.lean ====
section
/-!
DEFINITION. The Management Executive: the session, the node requests, the request gate with its reply
cache, and RESTART as it is carried out (spec/08 R120 to R137).
-/

namespace Sys2Proof.Machine

/-! ### The session (R126 to R129) -/

/-- The session record of a CLOSED session; the tag counter is kept (R127). -/
def closedSession (m : Management) : Management :=
  { m with session := none, inactivity := 0, lastSequence := none, cache := none }

/-- The tag counter advanced by one, from 255 to 1 (R126). -/
def nextTag (t : Byte) : Byte := if t = 0xFF then 0x01 else t + 1

/-- A session opened or renewed for a controller with a new tag (R126). -/
def openedSession (c : Byte) (m : Management) : Management :=
  { m with session := some { owner := c, tag := nextTag m.tagCounter }, inactivity := 0, lastSequence := none,
           cache := none, tagCounter := nextTag m.tagCounter }

/-- Whether a header notice expires the session: its count, increased by one, reaches or passes 16 times
the timeout (R129). -/
def expiryDue (m : Management) : Bool :=
  m.session.isSome && decide (16 * m.node.sessionTimeout.toNat ≤ m.inactivity + 1)

/-- ME's work on a header notice (R129). -/
def sessionNotice (m : Management) : Management × List Post :=
  match m.session with
  | none => (m, [])
  | some k =>
    if expiryDue m then (closedSession m, [{ kind := .sessionExpired, detail := [k.owner, k.tag] }])
    else ({ m with inactivity := m.inactivity + 1 }, [])

/-- The state with ME's part changed. -/
def onMe (f : Management → Management) (s : State) : State := s.withMe (f s.me)

/-! ### RESTART carried out (R136) -/

/-- Every block's part of RESTART at one instant (R136). The increments made at the same instant, those of branch
characters that complete at it among them, reach the counters before or after the zeroing, in either order (R163).
The posts of such characters that a free choice takes before RESTART are emptied away with the rest (R147); the
others are `latePosts`. -/
def carryOutRestart (incs : List CounterIx) (s : State) : State :=
  let abandoned := decide (s.mu.switch.state = .armed)
  let incs := incs ++ racingCounts s
  let s := s.withFreeCount (s.freeCount + (racingPosts s).length)
  let s := onMe (fun m => { closedSession m with restartCause := .request, deferredRestart := false }) s
  let s := s.withMu (switchRestart s.mu)
  let s := s.withBu (s.bu.map stopBranch)
  let s := s.withPu (clearRun s.pu)
  let s := countRacing incs counterRestart s
  s.withEq (EventQueue.restarted .request abandoned (cycleField s))

/-- The posts of branch characters that complete at the instant of RESTART which reach the Event Queue after it
(R147). -/
def latePosts (s : State) : List Post := freeLate (racingPosts s) s.freeCount

/-- A frame-end or abort notice from the Service Port, or none of them: RESTART is carried out where
the deferred-restart flag is set (R135), and the increments of the instant are made. -/
def frameNotice (notice : Bool) (incs : List CounterIx) (s : State) : State :=
  if notice && s.me.deferredRestart then postTogether (apart (latePosts s)) (carryOutRestart incs s)
  else countAll incs s

/-! ### The requests ME owns -/

/-- The ten bytes of IDENTIFY (R132). A request is executed only while CT is LOCKED, so byte 4 is 02h or
03h. -/
def identifyData (s : State) : List Byte :=
  [0x41, 0x01, s.me.address, if s.ct.coasting then 0x03 else 0x02, boolByte s.me.session.isSome,
   s.me.session.elim 0 Session.owner, s.me.restartCause.code, natByte s.mu.live.length, s.mu.switch.state.code,
   natByte s.eq.events.length]

def identifyOwner (s : State) : Reply × State := ({ status := .ok, data := identifyData s }, s)

/-- ASSIGN (R131). -/
def assignOwner (r : Request) (s : State) : Reply × State :=
  (bare .ok, onMe (fun m => { m with address := r.param 0 }) s)

/-- OPEN (R126). -/
def openOwner (r : Request) (s : State) : Reply × State :=
  match s.me.session with
  | some k =>
    if k.owner = r.controller then
      ({ status := .ok, data := [nextTag s.me.tagCounter] }, onMe (openedSession r.controller) s)
    else ({ status := .held, data := [k.owner] }, s)
  | none => ({ status := .ok, data := [nextTag s.me.tagCounter] }, onMe (openedSession r.controller) s)

/-- CLOSE (R128). -/
def closeOwner (s : State) : Reply × State := (bare .ok, onMe closedSession s)

/-- KEEP (R128): nothing at step 7. -/
def keepOwner (s : State) : Reply × State := (bare .ok, s)

/-- NODE_GET (R133). -/
def nodeGetOwner (s : State) : Reply × State := ({ status := .ok, data := s.me.node.bytes }, s)

/-- NODE_SET (R134). -/
def nodeSetOwner (r : Request) (s : State) : Reply × State :=
  match nodeSettingsOfBytes r.params with
  | some n => (bare .ok, onMe (fun m => { m with node := n }) s)
  | none => (bare .badParam, s)

/-- RESTART (R135): the deferred-restart flag is set, nothing else is changed. -/
def restartOwner (s : State) : Reply × State :=
  (bare .ok, onMe (fun m => { m with deferredRestart := true }) s)

/-! ### The gate (R122 to R125) -/

/-- The reply room a request needs (R123, R39, R64, R78, R81, R100, R142, R161, R165, R168). -/
def roomNeeded (q : ReqName) (r : Request) : Nat :=
  match q with
  | .identify => 10
  | .openSession => 1
  | .nodeGet => 8
  | .mapRead => 1 + (r.params[2]?.elim 0 BitVec.toNat)
  | .mapCheck => 3
  | .arm => 3
  | .disarm => 5
  | .switchStatus => 13
  | .branchGet => 13
  | .poll => 1
  | .testStatus => 18
  | .capture => 1
  | .readCounters => 3 + 2 * (r.params[1]?.elim 0 BitVec.toNat)
  | .assign | .closeSession | .keep | .nodeSet | .restart => 0
  | .mapWrite | .mapLength | .mapCopy | .branchSet | .branchControl => 0
  | .ack | .testSet | .testStart | .testStop => 0

/-- Whether a request's parameter length and values are in range: step 6 (R123 and the owners' rules). -/
def paramsOk (q : ReqName) (r : Request) : Bool :=
  match q with
  | .identify | .closeSession | .keep | .nodeGet | .restart => r.params.isEmpty
  | .mapCopy | .mapCheck | .disarm | .switchStatus | .poll | .testStop | .testStatus => r.params.isEmpty
  | .assign => decide (r.params.length = 1 ∧ 1 ≤ (r.param 0).toNat ∧ (r.param 0).toNat ≤ 239)
  | .openSession =>
    decide (r.params.length = 0 ∧ r.session = 0 ∧ 1 ≤ r.controller.toNat ∧ r.controller.toNat ≤ 15)
  | .nodeSet => (nodeSettingsOfBytes r.params).isSome
  | .mapRead =>
    decide (r.params.length = 3 ∧ (r.param 0).toNat ≤ 1 ∧ (r.param 1).toNat ≤ 119 ∧ 1 ≤ (r.param 2).toNat
      ∧ (r.param 2).toNat ≤ 30 ∧ (r.param 1).toNat + (r.param 2).toNat ≤ 120)
  | .mapWrite =>
    decide (2 ≤ r.params.length ∧ r.params.length ≤ 31 ∧ (r.param 0).toNat ≤ 119
      ∧ (r.param 0).toNat + (r.params.length - 1) ≤ 120) && (writtenEntries r).isSome
  | .mapLength => decide (r.params.length = 1 ∧ 4 ≤ (r.param 0).toNat ∧ (r.param 0).toNat ≤ 120)
  | .arm => decide (r.params.length = 4 ∧ (r.param 0).toNat ≤ 31)
  | .branchGet => decide (r.params.length = 1 ∧ (r.param 0).toNat ≤ 3)
  | .branchSet =>
    decide (r.params.length = 8 ∧ (r.param 0).toNat ≤ 3) && (branchConfigOfBytes (r.params.drop 1)).isSome
  | .branchControl =>
    decide (r.params.length = 2 ∧ (r.param 0).toNat ≤ 3) && (actionOfByte (r.param 1)).isSome
  | .ack => decide (r.params.length = 1)
  | .testSet => (patternConfigOfBytes r.params).isSome
  | .testStart =>
    decide (r.params.length = 2) && (runModeOfByte (r.param 0)).isSome && (runLengthOfByte (r.param 1)).isSome
  | .capture => decide (r.params.length = 2 ∧ (r.param 0).toNat ≤ 1)
  | .readCounters =>
    decide (r.params.length = 2 ∧ (r.param 0).toNat ≤ 23 ∧ 1 ≤ (r.param 1).toNat ∧ (r.param 1).toNat ≤ 24
      ∧ (r.param 0).toNat + (r.param 1).toNat ≤ 24)

/-- The owner's own checks and execution: step 7 (R121). -/
def owner (q : ReqName) (r : Request) (s : State) : Reply × State :=
  match q with
  | .identify => identifyOwner s
  | .assign => assignOwner r s
  | .openSession => openOwner r s
  | .closeSession => closeOwner s
  | .keep => keepOwner s
  | .nodeGet => nodeGetOwner s
  | .nodeSet => nodeSetOwner r s
  | .restart => restartOwner s
  | .mapRead => mapReadOwner r s
  | .mapWrite => mapWriteOwner r s
  | .mapLength => mapLengthOwner r s
  | .mapCopy => mapCopyOwner s
  | .mapCheck => mapCheckOwner s
  | .arm => armOwner r s
  | .disarm => disarmOwner s
  | .switchStatus => switchStatusOwner s
  | .branchGet => branchGetOwner r s
  | .branchSet => branchSetOwner r s
  | .branchControl => branchControlOwner r s
  | .poll => pollOwner r s
  | .ack => ackOwner r s
  | .testSet => testSetOwner r s
  | .testStart => testStartOwner r s
  | .testStop => testStopOwner s
  | .testStatus => testStatusOwner s
  | .capture => captureOwner r s
  | .readCounters => readCountersOwner r s

/-- Steps 5, 6 and 7 of the gate (R122). The room test is not made for a broadcast CAPTURE. -/
def serve (q : ReqName) (r : Request) (s : State) : Reply × State :=
  if !r.broadcast && decide (r.room < roomNeeded q r) then (bare .roomShort, s)
  else if !paramsOk q r then (bare .badParam, s)
  else owner q r s

/-- Whether the session is OPEN with a tag. -/
def tagIsOpen (m : Management) (t : Byte) : Bool := m.session.elim false fun k => decide (k.tag = t)

/-- The inactivity count set to 0 by a request that carries the open tag (R124). -/
def touchSession (r : Request) (m : Management) : Management :=
  if tagIsOpen m r.session then { m with inactivity := 0 } else m

/-- The cached reply a request replays at step 4, if it does (R122). -/
def replayOf (r : Request) (m : Management) : Option Reply :=
  if m.lastSequence = some r.sequence then m.cache else none

/-- A replayed reply: ROOM_SHORT where the Room is smaller than the cached Q (R125). -/
def replayed (r : Request) (c : Reply) : Reply := if r.room < c.data.length then bare .roomShort else c

/-- The last sequence and the cache set by a gated request (R124); a CLOSE that was executed writes
nothing. -/
def cacheReply (q : ReqName) (r : Request) (rep : Reply) (m : Management) : Management :=
  if q = .closeSession ∧ rep.status = .ok then m
  else { m with lastSequence := some r.sequence, cache := some rep }

/-- Steps 2 to 7 of a sessioned request (R122, R124). -/
def gateSessioned (q : ReqName) (r : Request) (s : State) : Reply × State :=
  if r.session = 0 then (bare .noSession, s)
  else if !tagIsOpen s.me r.session then (bare .staleSession, s)
  else
    match replayOf r s.me with
    | some c => (replayed r c, s)
    | none =>
      let (rep, t) := serve q r s
      (rep, onMe (cacheReply q r rep) t)

/-- The request gate (R122). -/
def gate (r : Request) (s₀ : State) : Reply × State :=
  let s := onMe (touchSession r) s₀
  match requestOfCode r.code with
  | none => (bare .badCode, s)
  | some q => if q.sessioned r.destination then gateSessioned q r s else serve q r s

end Sys2Proof.Machine
end

