-- ==== Sys2Proof/Machine/Service.lean ====
section
/-!
DEFINITION. The Service Port: the parser, the role at the claim byte, the claim, the execution of a
checked request, the reply section, the aborts and the frame's end (spec/07 R102 to R119).
-/

namespace Sys2Proof.Machine

/-- The state with the frame-in-passage context changed. -/
def onSp (f : FrameContext → FrameContext) (s : State) : State := s.withSp (f s.sp)

/-- A plain character's CLAIMED and FREE values in a Claim field (R102). -/
def claimTaken : Byte := 0xC1
def claimFree : Byte := 0x00

/-- The role at the Claim character: the first line of R108 that matches. -/
def decideRole (destination code claim address : Byte) : Role :=
  if destination = 0xFF then .broadcast
  else if destination = address ∧ 1 ≤ address.toNat ∧ address.toNat ≤ 239 ∧ claim = claimFree then .taker
  else if destination = address ∧ 1 ≤ address.toNat ∧ address.toNat ≤ 239 ∧ claim = claimTaken then .duplicate
  else if destination = 0 ∧ code = ReqName.code .assign ∧ address = 0 ∧ claim = claimFree then .taker
  else .bystander

/-! ### The reply section (R110, R114) -/

/-- The reply data bytes of a reply: the Q data bytes, then 00h up to R. -/
def padded (room : Nat) (data : List Byte) : List Byte := data ++ List.replicate (room - data.length) 0

/-- The pending reply formed from a reply in a frame of Room R (R110). -/
def formReply (room : Nat) (rep : Reply) : PendingReply where
  status := rep.status
  q := rep.data.length
  data := padded room rep.data
  check := crc16 (rep.status.code :: natByte rep.data.length :: padded room rep.data)

/-- The characters of the reply section, in order (R114). -/
def replySection (p : PendingReply) : List Byte :=
  p.status.code :: natByte p.q :: (p.data ++ [hiByte p.check, loByte p.check])

/-- The value of the Room field as received. -/
def roomOf (c : FrameContext) : Nat := c.room.elim 0 BitVec.toNat

/-- The value of the Length field as received. -/
def lengthOf (c : FrameContext) : Nat := c.length.elim 0 BitVec.toNat

/-! ### The last request check character (R110 to R113) -/

/-- The request the context holds. -/
def contextRequest (c : FrameContext) : Request where
  destination := c.destination.getD 0
  code := c.code.getD 0
  controller := c.controller.getD 0
  session := c.session.getD 0
  sequence := c.sequence.getD 0
  room := roomOf c
  params := c.params
  broadcast := decide (c.role = .broadcast)

/-- A request handed to ME, and its reply made the pending reply (R110). -/
def handToMe (r : Request) (s : State) : State :=
  let (rep, t) := gate r s
  onSp (fun c => { c with executed := true, pendingReply := some (formReply r.room rep) }) t

/-- R110. The count of frames taken and a snapshot that the request takes fall at one instant, and reach
the counter in either order (R164). -/
def takeRequest (r : Request) (s : State) : State :=
  if r.code = ReqName.code .capture then
    let k := s.freeCount
    if Config.freeBit k then handToMe r (count cntFramesTaken (s.withFreeCount (k + 1)))
    else count cntFramesTaken (handToMe r (s.withFreeCount (k + 1)))
  else handToMe r (count cntFramesTaken s)

/-- A broadcast CAPTURE handed to ME, its reply discarded (R112, R122). -/
def handBroadcast (r : Request) (s : State) : State :=
  onSp (fun c => { c with executed := true }) (gate r s).2

/-- What a frame does at its last request check character, by role and check (R110 to R113). -/
def atCheck (good : Bool) (role : Role) (r : Request) (s : State) : State :=
  match role with
  | .taker =>
    if good then takeRequest r s
    else onSp (fun c => { c with pendingReply := some (formReply r.room (bare .checkFail)) })
      (count cntCheckFailures s)
  | .broadcast => if good ∧ r.code = ReqName.code .capture then handBroadcast r s else s
  | .duplicate =>
    onSp (fun c => { c with pendingReply := some (formReply r.room (bare .duplicate)) })
      (post { kind := .addressConflict, detail := [r.destination] } s)
  | .bystander => s
  | .none => s

/-! ### Begin, end and abort (R106, R115, R116, R118) -/

/-- The context at an FS that begins a frame (R105, R106). -/
def beginContext (c : FrameContext) : FrameContext :=
  { c with
    parser := .header, place := 0, role := .none, destination := none, code := none, claim := none,
    controller := none, session := none, sequence := none, room := none, length := none, params := [],
    runningCheck := 0xFFFF, executed := false, pendingReply := none }

/-- The context when a frame has ended or was aborted (R115, R118). -/
def endContext (c : FrameContext) : FrameContext :=
  { c with parser := .idle, place := 0, role := .none, executed := false, pendingReply := none }

/-- An abort that leaves the parser in IDLE (R115), with the other increments of the character. -/
def abortFrame (incs : List CounterIx) (s : State) : State :=
  frameNotice s.sp.executed (incs ++ [cntFrameAborts]) (onSp endContext s)

/-- An abort by FS, which begins the next frame at once (R115). -/
def abortByFs (incs : List CounterIx) (s : State) : State :=
  frameNotice s.sp.executed (incs ++ [cntFrameAborts, cntFramesSeen]) (onSp beginContext s)

/-- FE taken in END: the frame is complete (R118). -/
def completeFrame (s : State) : State := frameNotice s.sp.executed [] (onSp endContext s)

/-! ### The parser (R107) -/

/-- The context moved on by one character of its field group, the byte taken into the request check. -/
def coverByte (v : Byte) (c : FrameContext) : FrameContext :=
  { c with place := c.place + 1, runningCheck := crcByte c.runningCheck v }

/-- The state after Length (R107). -/
def afterLength (v : Byte) (c : FrameContext) : FrameContext :=
  { coverByte v c with
    length := some v, place := 0, parser := if v = 0 then .reqCheck else .params }

/-- A plain character in HEADER (R107, R108, R109). -/
def takeHeader (v : Byte) (s : State) : OutChar × State :=
  match s.sp.place with
  | 0 => (plainOut v, onSp (fun c => { coverByte v c with destination := some v }) s)
  | 1 => (plainOut v, onSp (fun c => { coverByte v c with code := some v }) s)
  | 2 =>
    let role := decideRole (s.sp.destination.getD 0) (s.sp.code.getD 0) v s.me.address
    (plainOut (if role = .taker then claimTaken else v),
     onSp (fun c => { c with place := c.place + 1, claim := some v, role := role }) s)
  | 3 => (plainOut v, onSp (fun c => { coverByte v c with controller := some v }) s)
  | 4 => (plainOut v, onSp (fun c => { coverByte v c with session := some v }) s)
  | 5 => (plainOut v, onSp (fun c => { coverByte v c with sequence := some v }) s)
  | 6 =>
    if 32 < v.toNat then (plainOut v, abortFrame [] s)
    else (plainOut v, onSp (fun c => { coverByte v c with room := some v }) s)
  | _ =>
    if 32 < v.toNat then (plainOut v, abortFrame [] s)
    else (plainOut v, onSp (afterLength v) s)

/-- The context after a parameter character (R107). -/
def takeParam (v : Byte) (c : FrameContext) : FrameContext :=
  let d := { coverByte v c with params := c.params ++ [v] }
  if d.place = lengthOf c then { d with parser := .reqCheck, place := 0 } else d

/-- The context once both request check characters are in: TURN (R107). -/
def checkTaken (v : Byte) (c : FrameContext) : FrameContext :=
  { c with checkLow := some v, parser := .turn, place := 0 }

/-- A plain character in REQCHECK (R107): at the second the checks are compared (R104). -/
def takeCheck (v : Byte) (s : State) : State :=
  if s.sp.place = 0 then onSp (fun c => { c with checkHigh := some v, place := 1 }) s
  else
    atCheck (decide (s.sp.runningCheck = word16 (s.sp.checkHigh.getD 0) v)) s.sp.role (contextRequest s.sp)
      (onSp (checkTaken v) s)

/-- The context after a turnaround character (R107). -/
def takeTurn (c : FrameContext) : FrameContext :=
  if c.place = 0 then { c with place := 1 } else { c with parser := .reply, place := 0 }

/-- The context after a reply character (R107). -/
def takeReply (c : FrameContext) : FrameContext :=
  if c.place + 1 = roomOf c + 4 then { c with parser := .finish, place := 0 } else { c with place := c.place + 1 }

/-- What is sent for a plain reply character (R114). -/
def replyOutput (v : Byte) (c : FrameContext) : Byte :=
  if c.role = .taker ∨ c.role = .duplicate then
    match c.pendingReply with
    | some p => (replySection p).getD c.place 0
    | none => v
  else v

/-- A plain character of a frame in progress (R107, R114, R116). -/
def takePlain (v : Byte) (s : State) : OutChar × State :=
  match s.sp.parser with
  | .idle => (plainOut v, s)
  | .header => takeHeader v s
  | .params => (plainOut v, onSp (takeParam v) s)
  | .reqCheck => (plainOut v, takeCheck v s)
  | .turn => (plainOut v, onSp takeTurn s)
  | .reply => (plainOut (replyOutput v s.sp), onSp takeReply s)
  | .finish => (plainOut v, abortFrame [] s)

/-- One element of the service channel between frames (R106). -/
def idleElement (ch : TrunkChar) (incs : List CounterIx) (s : State) : OutChar × State :=
  match ch with
  | .fs => (TrunkChar.forwarded 0 .fs, countAll (incs ++ [cntFramesSeen]) (onSp beginContext s))
  | .fe => (TrunkChar.forwarded 0 .fe, countAll incs s)
  | .plain v => (plainOut v, countAll incs s)
  | .sidle | .sync | .syncA | .stray _ | .damaged => (sidleOut, countAll incs s)

/-- One element of the service channel in a frame in progress (R107, R115, R116, R118). -/
def frameElement (ch : TrunkChar) (incs : List CounterIx) (s : State) : OutChar × State :=
  match ch with
  | .plain v => takePlain v (countAll incs s)
  | .fs => (TrunkChar.forwarded 0 .fs, abortByFs incs s)
  | .fe =>
    (TrunkChar.forwarded 0 .fe, if s.sp.parser = .finish then completeFrame (countAll incs s) else abortFrame incs s)
  | .sidle | .sync | .syncA | .stray _ | .damaged => (sidleOut, abortFrame incs s)

/-- One element of the service channel: the character sent in its slot, and the state after it (R49).
`incs` are the increments CT makes at the same character. -/
def serviceElement (ch : TrunkChar) (incs : List CounterIx) (s : State) : OutChar × State :=
  if s.sp.parser = .idle then idleElement ch incs s else frameElement ch incs s

/-- Whether an element ends or aborts the frame in progress of a request that was executed (R115, R116,
R118). -/
def frameEnds (c : FrameContext) (ch : TrunkChar) : Bool :=
  match c.parser, ch with
  | .idle, _ => false
  | .finish, _ => true
  | _, .plain _ => false
  | _, _ => true

/-! ### A request row's command -/

/-- The bytes the request check of a frame covers (R104). -/
def coveredBytes (code : Byte) (f : ReqFrame) : List Byte :=
  [f.destination, code, f.controller, f.session, f.sequence, f.room, natByte f.params.length] ++ f.params

/-- The request check of a frame (R104). -/
def requestCheck (code : Byte) (f : ReqFrame) : Word16 := crc16 (coveredBytes code f)

/-- The request a frame carries, for a role. -/
def frameRequest (code : Byte) (f : ReqFrame) (role : Role) : Request where
  destination := f.destination
  code := code
  controller := f.controller
  session := f.session
  sequence := f.sequence
  room := f.room.toNat
  params := f.params
  broadcast := decide (role = .broadcast)

/-- The context right after a frame's last request check character, before the request acts (R107). -/
def frameContext (code : Byte) (f : ReqFrame) (role : Role) : FrameContext where
  parser := .turn
  place := 0
  role := role
  destination := some f.destination
  code := some code
  claim := some f.claim
  controller := some f.controller
  session := some f.session
  sequence := some f.sequence
  room := some f.room
  length := some (natByte f.params.length)
  params := f.params
  runningCheck := requestCheck code f
  checkHigh := some (hiByte (requestCheck code f))
  checkLow := some (loByte (requestCheck code f))
  executed := false
  pendingReply := none

/-- The context of a frame at the Room or Length that makes it malformed, before it is abandoned (R107): the header
bytes received so far, and the running check over those it covers. They stand until an FS begins a frame (log entry
11). -/
def malformedContext (code : Byte) (f : ReqFrame) (c : FrameContext) : FrameContext :=
  { c with
    destination := some f.destination, code := some code, claim := some f.claim, controller := some f.controller,
    session := some f.session, sequence := some f.sequence,
    room := if 32 < f.room.toNat then none else some f.room,
    runningCheck := crc16 ((coveredBytes code f).take (if 32 < f.room.toNat then 5 else 6)) }

/-- The command of a request row: a frame that carries the request, with a good request check, reaches the
Service Port, from its FS to its last request check character (R106 to R113; log entry 2). Nothing reaches it
while CT is not LOCKED or a hard reset lasts (R9, R25; log entry 2); a Room or Length above 32 makes the frame
malformed (R107). Where the trunk receiver waits for TI to return to 1, the frame is taken all the same, as one that
arrives after that return, and the wait is left as it is: the model's choice (log entry 2). -/
def requestStep (code : Byte) (f : ReqFrame) (s : State) : State :=
  if s.inReset ∨ s.ct.lock ≠ .locked then s
  else
    let t := (serviceElement .fs [] s).2
    if 32 < f.room.toNat ∨ 32 < f.params.length then abortFrame [] (onSp (malformedContext code f) t)
    else
      let role := decideRole f.destination code f.claim t.me.address
      atCheck true role (frameRequest code f role) (t.withSp (frameContext code f role))

/-- The service channel elements of a frame from FS to its last request check character, as the head
sends them (R102). -/
def frameElements (code : Byte) (f : ReqFrame) : List TrunkChar :=
  .fs :: ([f.destination, code, f.claim, f.controller, f.session, f.sequence, f.room, natByte f.params.length]
    ++ f.params ++ [hiByte (requestCheck code f), loByte (requestCheck code f)]).map .plain

/-- The state after a run of service channel elements. -/
def serviceElements (chs : List TrunkChar) (s : State) : State :=
  chs.foldl (fun t ch => (serviceElement ch [] t).2) s

end Sys2Proof.Machine
end

