-- ==== Sys2Proof/Machine/RequestRows.lean ====
section
/-!
DEFINITION. The meanings of the request rows: each is a frame that carries the request, taken by the Service Port
from its FS to its last request check character, at which the request is executed (spec/07 R106 to R113, spec/08
R122; log entry 2). What a request does at ME stands with its owner: `identifyOwner` and the others that `owner`
lists.
-/

namespace Sys2Proof.Machine

/-- Whether a frame's second parameter byte is an action of BRANCH_CONTROL: the row the frame belongs to (R95). -/
def namesAction (a : BranchAction) (f : ReqFrame) : Bool := decide (f.params[1]? = some a.code)

/-- Whether a frame's first parameter byte is a mode of CAPTURE: the row the frame belongs to (R165). -/
def namesMode (m : Byte) (f : ReqFrame) : Bool := decide (f.params[0]? = some m)

/-- A request row's step where the frame belongs to the row; otherwise the frame is another row's. -/
def rowStep (mine : Bool) (q : ReqName) (f : ReqFrame) (s : State) : State :=
  if mine then requestStep q.code f s else s

/-- IDENTIFY (R132). -/
def execIdentify (f : ReqFrame) (s : State) : Host.Outcome State Fault Refusal :=
  .next (rowStep true .identify f s)

/-- ASSIGN (R131). -/
def execAssign (f : ReqFrame) (s : State) : Host.Outcome State Fault Refusal :=
  .next (rowStep true .assign f s)

/-- OPEN (R126). -/
def execOpenSession (f : ReqFrame) (s : State) : Host.Outcome State Fault Refusal :=
  .next (rowStep true .openSession f s)

/-- CLOSE (R128). -/
def execCloseSession (f : ReqFrame) (s : State) : Host.Outcome State Fault Refusal :=
  .next (rowStep true .closeSession f s)

/-- KEEP (R128). -/
def execKeep (f : ReqFrame) (s : State) : Host.Outcome State Fault Refusal :=
  .next (rowStep true .keep f s)

/-- NODE_GET (R133). -/
def execNodeGet (f : ReqFrame) (s : State) : Host.Outcome State Fault Refusal :=
  .next (rowStep true .nodeGet f s)

/-- NODE_SET (R134). -/
def execNodeSet (f : ReqFrame) (s : State) : Host.Outcome State Fault Refusal :=
  .next (rowStep true .nodeSet f s)

/-- RESTART (R135). -/
def execRestart (f : ReqFrame) (s : State) : Host.Outcome State Fault Refusal :=
  .next (rowStep true .restart f s)

/-- UNKNOWN_REQUEST (R122): the Code names no request, and the gate answers BAD_CODE. A Code that names one
is another row's. -/
def execUnknownRequest (code : Byte) (f : ReqFrame) (s : State) : Host.Outcome State Fault Refusal :=
  .next (if (requestOfCode code).isNone then requestStep code f s else s)

/-- MAP_READ (R40). -/
def execMapRead (f : ReqFrame) (s : State) : Host.Outcome State Fault Refusal :=
  .next (rowStep true .mapRead f s)

/-- MAP_WRITE (R41). -/
def execMapWrite (f : ReqFrame) (s : State) : Host.Outcome State Fault Refusal :=
  .next (rowStep true .mapWrite f s)

/-- MAP_LENGTH (R42). -/
def execMapLength (f : ReqFrame) (s : State) : Host.Outcome State Fault Refusal :=
  .next (rowStep true .mapLength f s)

/-- MAP_COPY (R43). -/
def execMapCopy (f : ReqFrame) (s : State) : Host.Outcome State Fault Refusal :=
  .next (rowStep true .mapCopy f s)

/-- MAP_CHECK (R44). -/
def execMapCheck (f : ReqFrame) (s : State) : Host.Outcome State Fault Refusal :=
  .next (rowStep true .mapCheck f s)

/-- ARM (R64 to R66). -/
def execArm (f : ReqFrame) (s : State) : Host.Outcome State Fault Refusal :=
  .next (rowStep true .arm f s)

/-- DISARM (R78). -/
def execDisarm (f : ReqFrame) (s : State) : Host.Outcome State Fault Refusal :=
  .next (rowStep true .disarm f s)

/-- SWITCH_STATUS (R81). -/
def execSwitchStatus (f : ReqFrame) (s : State) : Host.Outcome State Fault Refusal :=
  .next (rowStep true .switchStatus f s)

/-- BRANCH_GET (R100). -/
def execBranchGet (f : ReqFrame) (s : State) : Host.Outcome State Fault Refusal :=
  .next (rowStep true .branchGet f s)

/-- BRANCH_SET (R99). -/
def execBranchSet (f : ReqFrame) (s : State) : Host.Outcome State Fault Refusal :=
  .next (rowStep true .branchSet f s)

/-- ENABLE: BRANCH_CONTROL with its action (R96). -/
def execEnable (f : ReqFrame) (s : State) : Host.Outcome State Fault Refusal :=
  .next (rowStep (namesAction .enable f) .branchControl f s)

/-- DISABLE: BRANCH_CONTROL with its action (R96). -/
def execDisable (f : ReqFrame) (s : State) : Host.Outcome State Fault Refusal :=
  .next (rowStep (namesAction .disable f) .branchControl f s)

/-- CLEAR_HOLD: BRANCH_CONTROL with its action (R97). -/
def execClearHold (f : ReqFrame) (s : State) : Host.Outcome State Fault Refusal :=
  .next (rowStep (namesAction .clearHold f) .branchControl f s)

/-- FLUSH_DROP: BRANCH_CONTROL with its action (R98). -/
def execFlushDrop (f : ReqFrame) (s : State) : Host.Outcome State Fault Refusal :=
  .next (rowStep (namesAction .flushDrop f) .branchControl f s)

/-- FLUSH_INSERT: BRANCH_CONTROL with its action (R98). -/
def execFlushInsert (f : ReqFrame) (s : State) : Host.Outcome State Fault Refusal :=
  .next (rowStep (namesAction .flushInsert f) .branchControl f s)

/-- POLL (R142). -/
def execPoll (f : ReqFrame) (s : State) : Host.Outcome State Fault Refusal :=
  .next (rowStep true .poll f s)

/-- ACK (R144). -/
def execAck (f : ReqFrame) (s : State) : Host.Outcome State Fault Refusal :=
  .next (rowStep true .ack f s)

/-- TEST_SET (R158). -/
def execTestSet (f : ReqFrame) (s : State) : Host.Outcome State Fault Refusal :=
  .next (rowStep true .testSet f s)

/-- TEST_START (R159). -/
def execTestStart (f : ReqFrame) (s : State) : Host.Outcome State Fault Refusal :=
  .next (rowStep true .testStart f s)

/-- TEST_STOP (R160). -/
def execTestStop (f : ReqFrame) (s : State) : Host.Outcome State Fault Refusal :=
  .next (rowStep true .testStop f s)

/-- TEST_STATUS (R161). -/
def execTestStatus (f : ReqFrame) (s : State) : Host.Outcome State Fault Refusal :=
  .next (rowStep true .testStatus f s)

/-- CAPTURE_NOW: CAPTURE with mode 00h (R165). -/
def execCaptureNow (f : ReqFrame) (s : State) : Host.Outcome State Fault Refusal :=
  .next (rowStep (namesMode 0x00 f) .capture f s)

/-- CAPTURE_AT_CYCLE: CAPTURE with mode 01h (R166). -/
def execCaptureAtCycle (f : ReqFrame) (s : State) : Host.Outcome State Fault Refusal :=
  .next (rowStep (namesMode 0x01 f) .capture f s)

/-- READ_COUNTERS (R168). -/
def execReadCounters (f : ReqFrame) (s : State) : Host.Outcome State Fault Refusal :=
  .next (rowStep true .readCounters f s)

end Sys2Proof.Machine
end

