-- ==== Sys2Proof/Machine/Slots.lean ====
section
/-!
DEFINITION. The Slot Engine: what each slot of a locked cycle does with its character and what it sends
(spec/04 R46 to R57).
-/

namespace Sys2Proof.Machine

/-- The value of a usable character, a plain one; none for an unusable one (R47). -/
def usable : TrunkChar → Option Byte
  | .plain v => some v
  | _ => none

/-- A usable character sent unchanged, an unusable one as the fill byte (R48). -/
def passOut (fill : Byte) (ch : TrunkChar) : OutChar := plainOut ((usable ch).getD fill)

/-- SE's increment for a marked character in a slot that is not SERVICE (R47). -/
def slotCounts (ch : TrunkChar) : List CounterIx := if ch.isMarked then [cntDamaged] else []

/-- The drop half (R52): a push for a usable character while the branch is enabled. -/
def dropHalf (b : BranchNo) (ch : TrunkChar) (s : State) : State :=
  match usable ch with
  | some v => if s.bu[b].enabled then pushDrop b v s else s
  | none => s

/-- The insert half (R55, R59): the byte taken, or the fill byte. -/
def insertHalf (b : BranchNo) (s : State) : OutChar × State :=
  if s.bu[b].enabled then
    let (v, t) := popInsert b s
    (plainOut (v.getD (fillByte s)), t)
  else (plainOut (fillByte s), s)

/-- A TEST slot (R50): the checker takes the element, and the output is the generator byte while the
generator is on. -/
def testSlot (ch : TrunkChar) (s : State) : OutChar × State :=
  let (p, posts) := checkElement s.pu (usable ch)
  let (v, p') := generate p
  (match v with
   | some byte => plainOut byte
   | none => passOut (fillByte s) ch,
   postList posts (s.withPu p'))

/-- A slot that is not SERVICE, by its entry, its counts made (R48, R50 to R57). -/
def payloadSlot (e : Entry) (ch : TrunkChar) (s : State) : OutChar × State :=
  match e with
  | .pass => (passOut (fillByte s) ch, s)
  | .drop b => (plainOut (fillByte s), dropHalf b ch s)
  | .tap b => (passOut (fillByte s) ch, dropHalf b ch s)
  | .insert b => insertHalf b s
  | .exchange b => insertHalf b (dropHalf b ch s)
  | .test => testSlot ch s
  | .guard => (plainOut (fillByte s), s)
  | .service => (passOut (fillByte s) ch, s)

/-- One slot handed to SE (R46): the character sent, and the state after it. `incs` are the increments
CT makes at the same character. -/
def slotStep (i : SlotIx) (ch : TrunkChar) (incs : List CounterIx) (s : State) : OutChar × State :=
  if s.mu.live.entries[i] = .service then serviceElement ch incs s
  else payloadSlot s.mu.live.entries[i] ch (countAll (incs ++ slotCounts ch) s)

end Sys2Proof.Machine
end

