-- ==== Sys2Proof/Machine/Tracker.lean ====
section
/-!
DEFINITION. The Cycle Tracker, and the trunk character it takes whole: classification, header and slot
positions, lock, coasting, jumps, notices, fallback and the output character
(spec/01 R2 to R8, spec/02 R13 to R29).
-/

namespace Sys2Proof.Machine

/-- The state with CT's part changed. -/
def onCt (f : CycleTracker → CycleTracker) (s : State) : State := s.withCt (f s.ct)

/-! ### Unlocked (R14 to R16, R25 to R27) -/

/-- CT back in HUNT (R15, R16). -/
def toHunt (c : CycleTracker) : CycleTracker :=
  { c with lock := .hunt, position := .none, tally := 0, reference := none, slotsToGo := 0 }

/-- CT in CONFIRM at a sync code taken in HUNT (R14). -/
def toConfirm (c : CycleTracker) : CycleTracker :=
  { c with lock := .confirm, position := .awaitingNumber, tally := 0, reference := none, slotsToGo := 0 }

/-- A correct header's number taken in CONFIRM: the slots of its cycle are then counted (R15, R16). -/
def confirmNumber (n : Byte) (live : Nat) (c : CycleTracker) : CycleTracker :=
  { c with tally := c.tally + 1, reference := some (n + 1), slotsToGo := live, position := .slot 0 }

/-- The position after a slot, and one slot fewer to go (R15, R18). -/
def slotTaken (i : SlotIx) (c : CycleTracker) : CycleTracker :=
  { c with slotsToGo := c.slotsToGo - 1, position := if c.slotsToGo ≤ 1 then .header0 else .slot (i + 1) }

/-- The number at which a character completes the confirm count, if it does (R16, R17). -/
def gainsLock (c : CycleTracker) (confirmCount : Byte) (ch : TrunkChar) : Option Byte :=
  match c.lock, c.position, ch with
  | .confirm, .header1, .plain n =>
    if c.reference = some n ∧ confirmCount.toNat ≤ c.tally + 1 then some n else none
  | _, _, _ => none

/-- CT's own move at a character taken in HUNT or CONFIRM that does not gain lock (R14 to R16). -/
def unlockedNext (live : Nat) (ch : TrunkChar) (c : CycleTracker) : CycleTracker :=
  match c.lock, c.position with
  | .confirm, .awaitingNumber =>
    match ch with
    | .plain n => confirmNumber n live { c with tally := 0 }
    | .sync | .syncA => toConfirm c
    | _ => toHunt c
  | .confirm, .slot i => slotTaken i c
  | .confirm, .header0 => if ch.isSync then { c with position := .header1 } else toHunt c
  | .confirm, .header1 =>
    match ch with
    | .plain n => if c.reference = some n then confirmNumber n live c else toHunt c
    | .sync | .syncA => toConfirm c
    | _ => toHunt c
  | _, _ => if ch.isSync then toConfirm c else toHunt c

/-- The fallback action (R27): where either map differs from bootstrap, both become bootstrap, the session
closes and FALLBACK is posted; in both cases the count becomes 0. -/
def fallbackTaken (s : State) : State :=
  let t :=
    if mapsDiffer s.mu then
      post { kind := .fallback, detail := [] } (onMe closedSession (s.withMu (loadBootstrap s.mu)))
    else s
  onCt (fun c => { c with fallbackCount := 0 }) t

/-- Whether one more character brings the fallback count to its threshold (R26). -/
def fallbackReached (s : State) : Bool :=
  decide (s.me.node.fallbackThreshold ≠ 0
    ∧ 256 * s.me.node.fallbackThreshold.toNat ≤ s.ct.fallbackCount + 1)

/-- The fallback count advanced by one character, unless the threshold is 0 (R26). -/
def advanceFallback (s : State) : State :=
  if fallbackReached s then fallbackTaken s
  else if s.me.node.fallbackThreshold = 0 then s
  else onCt (fun c => { c with fallbackCount := c.fallbackCount + 1 }) s

/-! ### Headers (R17 to R24) -/

/-- A header notice handed to MU, ME and CB (R23), with CT's own posts of the same character; then CT takes
the Live length for the slots of the cycle (R18). The posts of one character are taken in either order (R141), those
of a jump and of the switch it ends next to each other (R80). -/
def headerTaken (n : Byte) (jump : Bool) (posts : List Post) (incs : List CounterIx) (s : State) : State :=
  let m := switchNotice n jump s.mu
  let e := sessionNotice s.me
  let c := captureNotice n jump incs ((s.withMu m.1).withMe e.1)
  let t := postTogether ((if jump then [posts ++ m.2] else [posts, m.2]) ++ [e.2, c.2]) c.1
  onCt (fun ct => { ct with slotsToGo := t.mu.live.length, position := .slot 0 }) t

/-- CT as it enters LOCKED on a number (R17). -/
def lockedOn (n : Byte) (c : CycleTracker) : CycleTracker :=
  { c with lock := .locked, cycle := some n, missCount := 0, coasting := false, fallbackCount := 0, tally := 0,
           reference := none }

/-- Lock gained at a number (R17). -/
def gainLock (n : Byte) (incs : List CounterIx) (s : State) : State :=
  headerTaken n false [{ kind := .lockGained, detail := [] }] incs (onCt (lockedOn n) s)

/-- A character taken in HUNT or CONFIRM: forwarded transparently (R25). -/
def unlockedStep (ch : TrunkChar) (incs : List CounterIx) (s : State) : OutChar × State :=
  (ch.forwarded (fillByte s),
   match gainsLock s.ct s.me.node.confirmCount ch with
   | some n => gainLock n incs s
   | none => advanceFallback (countAll incs (onCt (unlockedNext s.mu.live.length ch) s)))

/-- CT as lock is lost (R20). -/
def lockLostTracker (c : CycleTracker) : CycleTracker :=
  { c with lock := .hunt, missCount := 0, coasting := false, position := .none, slotsToGo := 0, cycle := none }

/-- The post LOCK_LOST with the last cycle number (R20). -/
def lockLostPost (c : CycleTracker) : Post := { kind := .lockLost, detail := [c.cycle.getD 0] }

/-- The lock-lost notice at MU, CB and PU, with CT's own post and the others of the instant: the posts are taken in
either order, those of CT and of the switch next to each other (R20, R74, R80, R156, R167). -/
def lockLostNotices (posts others : List Post) (s : State) : State :=
  let m := switchLockLost s.mu
  let c := captureLockLost (s.withMu m.1)
  let t := c.1.withPu (patternLockLost c.1.pu)
  postTogether ([posts ++ m.2, c.2] ++ apart others) t

/-- The loss of lock where the abort of the frame in passage carries RESTART out at the same instant.
Three choices of order are free: whether RESTART is taken before CT's loss, whether MU and CB take the
lock-lost notice before RESTART, and whether LOCK_LOST is posted before RESTART (R76, R147, R163, R167); where the
notice ends a switch before RESTART, LOCK_LOST is posted next to the switch's own event (R80). The posts of branch
characters that complete at the instant come before CT's loss or after it in the same way. -/
def loseLockWithRestart (incs : List CounterIx) (s : State) : State :=
  let k := s.freeCount
  let lost := lockLostPost s.ct
  let s := onSp endContext (s.withFreeCount (k + 3))
  let late := latePosts s
  if Config.freeBit k then
    let t := carryOutRestart incs s
    let j := t.freeCount
    let t := postTogether (apart (freeEarly late j)) (t.withFreeCount (j + late.length))
    lockLostNotices [lost] (freeLate late j) (onCt lockLostTracker t)
  else
    let noticed := Config.freeBit (k + 1)
    let early := Config.freeBit (k + 2) || (noticed && decide (s.mu.switch.state ≠ .idle))
    let s := onCt lockLostTracker s
    let s := if noticed then lockLostNotices (if early then [lost] else []) [] s
             else postList (if early then [lost] else []) s
    let s := carryOutRestart incs s
    lockLostNotices (if early then [] else [lost]) late s

/-- The increments of a loss of lock (R19, R20, R115). -/
def lockLostCounts (s : State) (incs : List CounterIx) : List CounterIx :=
  incs ++ [cntMisses, cntLockLosses] ++ (if s.sp.parser = .idle then [] else [cntFrameAborts])

/-- Whether the abort that a loss of lock makes carries RESTART out (R115, R135). -/
def restartAtLoss (s : State) : Bool :=
  decide (s.sp.parser ≠ .idle) && s.sp.executed && s.me.deferredRestart

/-- The loss of lock (R20): CT to HUNT, the counts, LOCK_LOST posted, and the lock-lost notice at MU, SP,
CB and PU. -/
def loseLock (incs : List CounterIx) (s : State) : State :=
  if restartAtLoss s then loseLockWithRestart (lockLostCounts s incs) s
  else
    let t := countAll (lockLostCounts s incs) s
    let t := if s.sp.parser = .idle then t else onSp endContext t
    lockLostNotices [lockLostPost s.ct] [] (onCt lockLostTracker t)

/-- The sync code sent at header position 0 (R24): SYNC-A where one was received or attention is asked. -/
def syncOutput (received : TrunkChar) (attention : Bool) : OutChar :=
  if received = .syncA || attention then syncAOut else syncOut

/-- Whether a miss now loses lock (R19, R20). -/
def missLosesLock (s : State) : Bool := decide (s.me.node.missLimit.toNat ≤ s.ct.missCount + 1)

/-- Header position 0 in LOCKED (R19, R20, R24). -/
def lockedSync (ch : TrunkChar) (incs : List CounterIx) (s : State) : OutChar × State :=
  if ch.isSync then
    (syncOutput ch (attentionAsked s),
     countAll incs (onCt (fun c => { c with missCount := 0, coasting := false, position := .header1 }) s))
  else if missLosesLock s then (ch.forwarded (fillByte s), loseLock incs s)
  else
    (syncOutput ch (attentionAsked s),
     countAll (incs ++ [cntMisses])
       (onCt (fun c => { c with missCount := c.missCount + 1, coasting := true, position := .header1 }) s))

/-- The expected cycle number (R21). -/
def expectedNumber (c : CycleTracker) : Byte := c.cycle.getD 0 + 1

/-- The number adopted at header position 1 in LOCKED, and whether the header is a cycle jump (R21, R22). -/
def adopted (c : CycleTracker) (ch : TrunkChar) : Byte × Bool :=
  match c.coasting, ch with
  | false, .plain v => (v, decide (v ≠ expectedNumber c))
  | _, _ => (expectedNumber c, false)

/-- The increments CT makes for a marked character at header position 1 after a good sync (R21, R28). -/
def numberCounts (c : CycleTracker) (ch : TrunkChar) : List CounterIx :=
  if !c.coasting && ch.isMarked then [cntDamaged] else []

/-- Header position 1 in LOCKED (R21 to R23): the adopted number is sent, plain. -/
def lockedNumber (ch : TrunkChar) (incs : List CounterIx) (s : State) : OutChar × State :=
  let n := (adopted s.ct ch).1
  let jump := (adopted s.ct ch).2
  let t := onCt (fun c => { c with cycle := some n }) s
  (plainOut n,
   if jump then
     headerTaken n true [{ kind := .cycleJump, detail := [expectedNumber s.ct, n] }] (incs ++ [cntJumps]) t
   else headerTaken n false [] (incs ++ numberCounts s.ct ch) t)

/-- A slot in LOCKED (R18). -/
def lockedSlot (i : SlotIx) (ch : TrunkChar) (incs : List CounterIx) (s : State) : OutChar × State :=
  let r := slotStep i ch incs s
  (r.1, onCt (slotTaken i) r.2)

/-- A character taken in LOCKED, by its position (R18). CT holds no other position while LOCKED; a character
at one would be forwarded and counted only. -/
def lockedStep (ch : TrunkChar) (incs : List CounterIx) (s : State) : OutChar × State :=
  match s.ct.position with
  | .header0 => lockedSync ch incs s
  | .header1 => lockedNumber ch incs s
  | .slot i => lockedSlot i ch incs s
  | .awaitingNumber => (ch.forwarded (fillByte s), countAll incs s)
  | .none => (ch.forwarded (fillByte s), countAll incs s)

/-- A received character taken by CT: the character that answers it, and the state (R6, R11). -/
def trackerStep (ch : TrunkChar) (s : State) : OutChar × State :=
  let incs := if ch = .damaged then [cntDamaged] else []
  match s.ct.lock with
  | .locked => lockedStep ch incs s
  | .hunt => unlockedStep ch incs s
  | .confirm => unlockedStep ch incs s

/-- Whether the trunk receiver can complete a character: no hard reset lasts, and it waits for a fall, not
for the line to be high (R2, R12). -/
abbrev trunkReady (s : State) : Prop := s.inReset = false ∧ s.trunk.wait = .fall

/-- The trunk line once a character is complete and its answer has begun on TO (R2, R5). -/
def trunkAnswered (bits : TrunkBits) (out : OutChar) : TrunkLine where
  wait := if bits.stop then .fall else .lineHigh
  out := some (formTrunk out)

/-- A trunk character received, whole (R2): classified, taken by CT, and answered on TO. Nothing is received
while the receiver cannot complete a character. -/
def trunkStep (bits : TrunkBits) (s : State) : State :=
  if trunkReady s then
    let r := trackerStep (classify bits) s
    r.2.withTrunk (trunkAnswered bits r.1)
  else s

/-! ### Which step of the table a trunk character is (spec/95) -/

/-- The header notice a character gives, if it gives one: its number and its jump mark (R23). -/
def noticeAt (ch : TrunkChar) (s : State) : Option (Byte × Bool) :=
  match s.ct.lock, s.ct.position with
  | .locked, .header1 => some (adopted s.ct ch)
  | .confirm, .header1 => (gainsLock s.ct s.me.node.confirmCount ch).map fun n => (n, false)
  | _, _ => none

/-- The character gains lock (R17). -/
def isLockGained (bits : TrunkBits) (s : State) : Bool :=
  decide (trunkReady s) && (gainsLock s.ct s.me.node.confirmCount (classify bits)).isSome

/-- The character loses lock (R20). -/
def isLockLost (bits : TrunkBits) (s : State) : Bool :=
  decide (trunkReady s ∧ s.ct.lock = .locked ∧ s.ct.position = .header0) && !(classify bits).isSync
    && missLosesLock s

/-- The character brings the fallback count to its threshold (R26, R27). -/
def isFallbackAction (bits : TrunkBits) (s : State) : Bool :=
  decide (trunkReady s ∧ s.ct.lock ≠ .locked) && (gainsLock s.ct s.me.node.confirmCount (classify bits)).isNone
    && fallbackReached s

/-- The character gives a header notice that a test holds of (R23). -/
def isNotice (test : Byte → Bool → Bool) (bits : TrunkBits) (s : State) : Bool :=
  decide (trunkReady s) && (noticeAt (classify bits) s).elim false fun p => test p.1 p.2

/-- The session expires at the character's header notice (R129). -/
def isSessionExpired (bits : TrunkBits) (s : State) : Bool := isNotice (fun _ _ => expiryDue s.me) bits s

/-- The switch fires at the character's header notice (R69, R70). -/
def isSwitchFire (bits : TrunkBits) (s : State) : Bool := isNotice (fireDue s.mu) bits s

/-- The guard ends at the character's header notice (R71). -/
def isGuardEnd (bits : TrunkBits) (s : State) : Bool := isNotice (guardEndDue s.mu) bits s

/-- The deferred capture is taken at the character's header notice (R167). -/
def isDeferredCapture (bits : TrunkBits) (s : State) : Bool := isNotice (captureDue s.cb) bits s

/-- The Pattern Unit right after the judgement a character brings, before a resync: present when the
character falls in a TEST slot of a locked cycle and the checker is LOCKED (R155). -/
def judgedAt (bits : TrunkBits) (s : State) : Option PatternUnit :=
  if trunkReady s ∧ s.ct.lock = .locked then
    match s.ct.position, s.pu.checker, s.pu.checkerRegister with
    | .slot i, .locked, some r =>
      if s.mu.live.entries[i] = .test then some (judged s.pu r (usable (classify bits))) else none
    | _, _, _ => none
  else none

/-- The character's judgement brings a resync (R155). -/
def isCheckerResync (bits : TrunkBits) (s : State) : Bool := (judgedAt bits s).elim false resyncDue

/-- The character's judgement completes a TIMED run (R157). -/
def isTestDone (bits : TrunkBits) (s : State) : Bool := (judgedAt bits s).elim false lengthReached

/-- The character ends or aborts the frame of a RESTART that was executed (R135). -/
def isRestartCarriedOut (bits : TrunkBits) (s : State) : Bool :=
  decide (trunkReady s) && s.me.deferredRestart && s.sp.executed
    && (match s.ct.lock, s.ct.position with
        | .locked, .slot i => decide (s.mu.live.entries[i] = .service) && frameEnds s.sp (classify bits)
        | .locked, .header0 => isLockLost bits s && decide (s.sp.parser ≠ .idle)
        | _, _ => false)

/-- The command of a row that names a trunk character by what comes about at it: that character's whole step
where it does come about in the state, and no step otherwise (log entry 1). -/
def trunkRow (due : Bool) (bits : TrunkBits) (s : State) : State := if due then trunkStep bits s else s

end Sys2Proof.Machine
end

