-- ==== Sys2Proof/Machine/ResetRows.lean ====
section
/-!
DEFINITION. The meanings of HARD_RESET and HARD_RESET_END (spec/01 R12, spec/08 R137, spec/13 R172).
-/

namespace Sys2Proof.Machine

/-- The cause a reset records (R137). -/
def causeOf : ResetSource → RestartCause
  | .power => .power
  | .pin => .pin

/-- A hard reset begins while none lasts (R12, R86, R88, R96, R172): TO goes to 1, every branch is stopped, so
that its BTX goes to 1 and its queues are emptied, the receivers stop sampling, and the cause is recorded. -/
def beginReset (c : RestartCause) (s : State) : State :=
  let s := s.withInReset true
  let s := s.withTrunk TrunkLine.reset
  let s := s.withBu (s.bu.map stopBranch)
  onMe (fun m => { m with restartCause := c }) s

/-- The meaning of HARD_RESET. While a reset lasts, power sets the cause to POWER, and RESET low adds
nothing (R137). -/
def execHardReset (source : ResetSource) (s : State) : Host.Outcome State Fault Refusal :=
  .next (if s.inReset then
      match source with
      | .power => onMe (fun m => { m with restartCause := .power }) s
      | .pin => s
    else beginReset (causeOf source) s)

/-- The state at the end of a hard reset: every block at its hard-reset value, with the cause that the reset
recorded (R12, R137). The model's own fields are kept. -/
def endReset (s : State) : State :=
  ((State.afterReset s.me.restartCause).withFreeCount s.freeCount).withPending s.pending

/-- The meaning of HARD_RESET_END; with no reset to end, nothing ends. -/
def execHardResetEnd (s : State) : Host.Outcome State Fault Refusal :=
  .next (if s.inReset then endReset s else s)

end Sys2Proof.Machine
end

