-- ==== Sys2Proof/Machine/TrunkRows.lean ====
section
/-!
DEFINITION. The meanings of the rows that happen on TI: a character received, and the rows that name such a
character by what comes about at it (spec/01 R2, spec/95; log entry 1).
-/

namespace Sys2Proof.Machine

/-- TRUNK_CHARACTER_RECEIVED (R2). -/
def execTrunkCharacterReceived (ch : TrunkBits) (s : State) : Host.Outcome State Fault Refusal :=
  .next (trunkStep ch s)

/-- TRUNK_FALSE_START (R2): no character is received, nothing is sent, and the receiver waits for a fall
again. -/
def execTrunkFalseStart (s : State) : Host.Outcome State Fault Refusal := .next s

/-- TRUNK_LINE_HIGH (R2): the receiver that waits for TI to be sampled at 1 begins to wait for a fall. -/
def execTrunkLineHigh (s : State) : Host.Outcome State Fault Refusal :=
  .next (if s.inReset = false ∧ s.trunk.wait = .lineHigh then s.withTrunk { s.trunk with wait := .fall } else s)

/-- FALLBACK_ACTION (R27). -/
def execFallbackAction (ch : TrunkBits) (s : State) : Host.Outcome State Fault Refusal :=
  .next (trunkRow (isFallbackAction ch s) ch s)

/-- LOCK_GAINED (R17). -/
def execLockGained (ch : TrunkBits) (s : State) : Host.Outcome State Fault Refusal :=
  .next (trunkRow (isLockGained ch s) ch s)

/-- LOCK_LOST (R20). -/
def execLockLost (ch : TrunkBits) (s : State) : Host.Outcome State Fault Refusal :=
  .next (trunkRow (isLockLost ch s) ch s)

/-- SESSION_EXPIRED (R129). -/
def execSessionExpired (ch : TrunkBits) (s : State) : Host.Outcome State Fault Refusal :=
  .next (trunkRow (isSessionExpired ch s) ch s)

/-- SWITCH_FIRE (R70). -/
def execSwitchFire (ch : TrunkBits) (s : State) : Host.Outcome State Fault Refusal :=
  .next (trunkRow (isSwitchFire ch s) ch s)

/-- GUARD_END (R71). -/
def execGuardEnd (ch : TrunkBits) (s : State) : Host.Outcome State Fault Refusal :=
  .next (trunkRow (isGuardEnd ch s) ch s)

/-- DEFERRED_CAPTURE (R167). -/
def execDeferredCapture (ch : TrunkBits) (s : State) : Host.Outcome State Fault Refusal :=
  .next (trunkRow (isDeferredCapture ch s) ch s)

/-- CHECKER_RESYNC (R155). -/
def execCheckerResync (ch : TrunkBits) (s : State) : Host.Outcome State Fault Refusal :=
  .next (trunkRow (isCheckerResync ch s) ch s)

/-- TEST_DONE (R157). -/
def execTestDone (ch : TrunkBits) (s : State) : Host.Outcome State Fault Refusal :=
  .next (trunkRow (isTestDone ch s) ch s)

/-- RESTART_CARRIED_OUT (R136). -/
def execRestartCarriedOut (ch : TrunkBits) (s : State) : Host.Outcome State Fault Refusal :=
  .next (trunkRow (isRestartCarriedOut ch s) ch s)

end Sys2Proof.Machine
end

