-- ==== Sys2Proof/Machine/Dispatch.lean ====
section
/-!
DEFINITION. One arm per command, in the order of spec/opcode_table.json.
-/

namespace Sys2Proof.Machine

def exec (i : Instr) (s : State) : Host.Outcome State Fault Refusal :=
  match i with
  | .hardReset source => Sys2Proof.Machine.execHardReset source s
  | .hardResetEnd => Sys2Proof.Machine.execHardResetEnd s
  | .trunkCharacterReceived ch => Sys2Proof.Machine.execTrunkCharacterReceived ch s
  | .trunkFalseStart => Sys2Proof.Machine.execTrunkFalseStart s
  | .fallbackAction ch => Sys2Proof.Machine.execFallbackAction ch s
  | .lockGained ch => Sys2Proof.Machine.execLockGained ch s
  | .lockLost ch => Sys2Proof.Machine.execLockLost ch s
  | .sessionExpired ch => Sys2Proof.Machine.execSessionExpired ch s
  | .switchFire ch => Sys2Proof.Machine.execSwitchFire ch s
  | .guardEnd ch => Sys2Proof.Machine.execGuardEnd ch s
  | .deferredCapture ch => Sys2Proof.Machine.execDeferredCapture ch s
  | .checkerResync ch => Sys2Proof.Machine.execCheckerResync ch s
  | .testDone ch => Sys2Proof.Machine.execTestDone ch s
  | .restartCarriedOut ch => Sys2Proof.Machine.execRestartCarriedOut ch s
  | .branchCharacterComplete b ch => Sys2Proof.Machine.execBranchCharacterComplete b ch s
  | .branchFalseStart b => Sys2Proof.Machine.execBranchFalseStart b s
  | .branchCharacterSent b => Sys2Proof.Machine.execBranchCharacterSent b s
  | .identify f => Sys2Proof.Machine.execIdentify f s
  | .assign f => Sys2Proof.Machine.execAssign f s
  | .openSession f => Sys2Proof.Machine.execOpenSession f s
  | .closeSession f => Sys2Proof.Machine.execCloseSession f s
  | .keep f => Sys2Proof.Machine.execKeep f s
  | .nodeGet f => Sys2Proof.Machine.execNodeGet f s
  | .nodeSet f => Sys2Proof.Machine.execNodeSet f s
  | .restart f => Sys2Proof.Machine.execRestart f s
  | .unknownRequest code f => Sys2Proof.Machine.execUnknownRequest code f s
  | .mapRead f => Sys2Proof.Machine.execMapRead f s
  | .mapWrite f => Sys2Proof.Machine.execMapWrite f s
  | .mapLength f => Sys2Proof.Machine.execMapLength f s
  | .mapCopy f => Sys2Proof.Machine.execMapCopy f s
  | .mapCheck f => Sys2Proof.Machine.execMapCheck f s
  | .arm f => Sys2Proof.Machine.execArm f s
  | .disarm f => Sys2Proof.Machine.execDisarm f s
  | .switchStatus f => Sys2Proof.Machine.execSwitchStatus f s
  | .branchGet f => Sys2Proof.Machine.execBranchGet f s
  | .branchSet f => Sys2Proof.Machine.execBranchSet f s
  | .enable f => Sys2Proof.Machine.execEnable f s
  | .disable f => Sys2Proof.Machine.execDisable f s
  | .clearHold f => Sys2Proof.Machine.execClearHold f s
  | .flushDrop f => Sys2Proof.Machine.execFlushDrop f s
  | .flushInsert f => Sys2Proof.Machine.execFlushInsert f s
  | .poll f => Sys2Proof.Machine.execPoll f s
  | .ack f => Sys2Proof.Machine.execAck f s
  | .testSet f => Sys2Proof.Machine.execTestSet f s
  | .testStart f => Sys2Proof.Machine.execTestStart f s
  | .testStop f => Sys2Proof.Machine.execTestStop f s
  | .testStatus f => Sys2Proof.Machine.execTestStatus f s
  | .captureNow f => Sys2Proof.Machine.execCaptureNow f s
  | .captureAtCycle f => Sys2Proof.Machine.execCaptureAtCycle f s
  | .readCounters f => Sys2Proof.Machine.execReadCounters f s
  | .trunkLineHigh => Sys2Proof.Machine.execTrunkLineHigh s
  | .branchLineHigh b => Sys2Proof.Machine.execBranchLineHigh b s
  | .branchStartFall b => Sys2Proof.Machine.execBranchStartFall b s

end Sys2Proof.Machine
end

