-- ==== Sys2Proof/WellFormed.lean ====
section
/-!
DEFINITION. Which commands are well formed: the frames that the format allows and that belong to the row they are
given to (spec/07 R102, R107; spec/06 R95; spec/11 R165; spec/08 R121).
-/

namespace Sys2Proof

open Sys2Proof.Machine

/-- A frame that reaches its request check: Room and Length at most 32 (R102, R107). -/
def ReqFrame.wellFormed (f : ReqFrame) : Bool := decide (f.room.toNat ≤ 32 ∧ f.params.length ≤ 32)

/-- The frame a command carries, for the request rows. -/
def Instr.frame : Instr → Option ReqFrame
  | .hardReset _ | .hardResetEnd | .trunkCharacterReceived _ | .trunkFalseStart | .fallbackAction _ => none
  | .lockGained _ | .lockLost _ | .sessionExpired _ | .switchFire _ | .guardEnd _ | .deferredCapture _ => none
  | .checkerResync _ | .testDone _ | .restartCarriedOut _ | .branchCharacterComplete _ _ => none
  | .branchFalseStart _ | .branchCharacterSent _ | .trunkLineHigh | .branchLineHigh _ | .branchStartFall _ => none
  | .identify f | .assign f | .openSession f | .closeSession f | .keep f | .nodeGet f | .nodeSet f | .restart f => some f
  | .unknownRequest _ f => some f
  | .mapRead f | .mapWrite f | .mapLength f | .mapCopy f | .mapCheck f | .arm f | .disarm f | .switchStatus f => some f
  | .branchGet f | .branchSet f | .enable f | .disable f | .clearHold f | .flushDrop f | .flushInsert f => some f
  | .poll f | .ack f | .testSet f | .testStart f | .testStop f | .testStatus f => some f
  | .captureNow f | .captureAtCycle f | .readCounters f => some f

/-- Whether a command's operands belong to its row: the action of a BRANCH_CONTROL (R95), the mode of a CAPTURE
(R165), and a Code that names no request (R121). -/
def Instr.inRow : Instr → Bool
  | .hardReset _ | .hardResetEnd | .trunkCharacterReceived _ | .trunkFalseStart | .fallbackAction _ => true
  | .lockGained _ | .lockLost _ | .sessionExpired _ | .switchFire _ | .guardEnd _ | .deferredCapture _ => true
  | .checkerResync _ | .testDone _ | .restartCarriedOut _ | .branchCharacterComplete _ _ => true
  | .branchFalseStart _ | .branchCharacterSent _ | .trunkLineHigh | .branchLineHigh _ | .branchStartFall _ => true
  | .identify _ | .assign _ | .openSession _ | .closeSession _ | .keep _ | .nodeGet _ | .nodeSet _ | .restart _ => true
  | .unknownRequest code _ => (requestOfCode code).isNone
  | .mapRead _ | .mapWrite _ | .mapLength _ | .mapCopy _ | .mapCheck _ | .arm _ | .disarm _ | .switchStatus _ => true
  | .branchGet _ | .branchSet _ => true
  | .enable f => namesAction .enable f
  | .disable f => namesAction .disable f
  | .clearHold f => namesAction .clearHold f
  | .flushDrop f => namesAction .flushDrop f
  | .flushInsert f => namesAction .flushInsert f
  | .poll _ | .ack _ | .testSet _ | .testStart _ | .testStop _ | .testStatus _ | .readCounters _ => true
  | .captureNow f => namesMode 0x00 f
  | .captureAtCycle f => namesMode 0x01 f

/-- A command is well formed when its frame, if it carries one, is, and its operands belong to its row. -/
def Instr.wellFormed (i : Instr) : Bool := i.frame.elim true ReqFrame.wellFormed && i.inRow

end Sys2Proof
end

