-- ==== Sys2Proof/Safety.lean ====
section
/-!
DEFINITION. The laws the spec says the part keeps in every state (R13, R36, R58, R83, R86, R105, R120, R138, R141, R148), and the
words in which the statements speak of a frame that is taken and of its reply.
-/

namespace Sys2Proof.Machine

/-! ### Laws of the state -/

/-- The law of the Event Queue (R138, R141): at most 16 entries, consecutive sequence numbers up to the next one,
and at 16 entries the newest is an OVERFLOW record. -/
abbrev eventLaw (q : EventQueue) : Prop :=
  q.events.length ≤ 16
  ∧ q.events.map EventRecord.sequence
      = (List.range q.events.length).map (fun k => q.nextSequence - BitVec.ofNat 8 (q.events.length - k))
  ∧ (q.events.length = 16 → q.events.getLast?.map EventRecord.kind = some .overflow)

/-- A length within 4..120 (R33). -/
abbrev lengthOk (m : SlotMap) : Prop := 4 ≤ m.length ∧ m.length ≤ 120

/-- The law of the two maps (R32, R33, R36): lengths 4..120, a SERVICE entry in Live below its length, no GUARD in
Pending, and GUARD in Live only while GUARDING. The last clause is what ARM has checked, kept until the switch
fires (R65). -/
abbrev mapLaw (m : MapUnit) : Prop :=
  lengthOk m.live ∧ lengthOk m.pendingMap ∧ hasService m.live = true
  ∧ (∀ i : SlotIx, m.pendingMap.entries[i] ≠ .guard)
  ∧ (m.switch.state ≠ .guarding → ∀ i : SlotIx, m.live.entries[i] ≠ .guard)
  ∧ (m.switch.state = .armed → hasService (merged m m.switch.groups) = true)

/-- The law of the frame in passage (R105, R107): the place is one of the current field group, a Room and a Length
that were taken are at most 32, and the parameters held are those taken so far. While SP is in IDLE or END the place
is 0 (the model's choice for IDLE: log entry 11). -/
abbrev frameLaw (c : FrameContext) : Prop :=
  (c.parser = .idle ∨ c.parser = .finish → c.place = 0)
  ∧ (c.parser = .header → c.place ≤ 7 ∧ c.params = [] ∧ (c.place = 7 → roomOf c ≤ 32))
  ∧ (c.parser = .params → c.place < lengthOf c ∧ c.params.length = c.place)
  ∧ (c.parser = .reqCheck ∨ c.parser = .turn → c.place ≤ 1)
  ∧ (c.parser = .reply → c.place < roomOf c + 4)
  ∧ (c.parser ≠ .idle → c.parser ≠ .header → roomOf c ≤ 32 ∧ lengthOf c ≤ 32)
  ∧ c.params.length ≤ 32 ∧ c.place ≤ 35

/-- The law of the Executive (R106, R108, R120, R124, R126, R133): the address is 0..239; while it is 0 the session is
CLOSED, and a frame the part is TAKER of carries an ASSIGN to destination 0; a frame has no role before its claim
byte; a tag is never 0; while the session is CLOSED the last sequence is absent and the cache invalid; the inactivity count
is at most 4079; and the node settings are valid. -/
abbrev managementLaw (s : State) : Prop :=
  s.me.address.toNat ≤ 239
  ∧ (s.me.address = 0 → s.me.session = none)
  ∧ (s.me.address = 0 → s.sp.role = .taker → s.sp.code = some 0x02 ∧ s.sp.destination.getD 0 = 0)
  ∧ (s.sp.parser = .header → s.sp.place ≤ 2 → s.sp.role = .none)
  ∧ (∀ k, s.me.session = some k → k.tag ≠ 0)
  ∧ (s.me.session = none → s.me.cache = none ∧ s.me.lastSequence = none)
  ∧ s.me.inactivity ≤ 4079
  ∧ s.me.node.valid = true

/-- The law of a Branch Unit (R58, R83, R84, R86, R88): queues of at most 32, the start level at most 31, a divisor
that is not 0, a disabled branch at the values of R83, a drop queue that is empty while the transmitter is IDLE, and
an enabled branch that is FILLING below its start level. -/
abbrev branchLaw (x : Branch) : Prop :=
  x.dropQueue.length ≤ 32 ∧ x.insertQueue.length ≤ 32 ∧ x.config.startLevel ≤ 31 ∧ x.config.divisor ≠ 0
  ∧ (x.enabled = false → x = Branch.disabledWith x.config)
  ∧ (x.sending = none → x.dropQueue = [])
  ∧ (x.enabled = true → x.side = .filling → x.insertQueue.length < x.config.startLevel)

/-- The law of the Cycle Tracker (R13, R26): tally, miss count, slots to go and fallback count are in their ranges, and
the fallback count is 0 while LOCKED; the current cycle number is present exactly while LOCKED, coasting happens
only while LOCKED, a locked tracker stands at a header position or a slot, and a slot has its place among the 120. -/
abbrev trackerLaw (c : CycleTracker) : Prop :=
  (c.lock = .locked ↔ c.cycle.isSome = true)
  ∧ (c.coasting = true → c.lock = .locked)
  ∧ (c.lock = .locked → c.position ≠ .none ∧ c.position ≠ .awaitingNumber)
  ∧ (∀ i : SlotIx, c.position = .slot i → 1 ≤ c.slotsToGo ∧ i.val + c.slotsToGo ≤ 120)
  ∧ c.tally ≤ 7 ∧ c.missCount ≤ 7 ∧ c.slotsToGo ≤ 120 ∧ c.fallbackCount ≤ 65280
  ∧ (c.lock = .locked → c.fallbackCount = 0)

/-- The law of the Pattern Unit (R148, R152, R155, R157): the checker state is OFF exactly when its control is; the
window holds at most 8 results, and none unless the checker is LOCKED; a LOCKED checker has a register, and one that is
OFF holds nothing; the threshold is 2..8; and no run has more errors than checked elements. -/
abbrev patternLaw (p : PatternUnit) : Prop :=
  (p.checker = .off ↔ p.config.checkerOn = false)
  ∧ p.window.length ≤ 8 ∧ (p.checker ≠ .locked → p.window = [])
  ∧ (p.checker = .locked → p.checkerRegister.isSome = true)
  ∧ (p.checker = .off → p.checkerRegister = none ∧ p.progress = .empty)
  ∧ 2 ≤ p.config.threshold ∧ p.config.threshold ≤ 8
  ∧ p.errors.toNat ≤ p.checked.toNat

/-! ### A frame that is taken -/

/-- The state right after the FS that begins a frame, whatever was in progress before it (R106, R115). -/
def atFs (s : State) : State := (serviceElement .fs [] s).2

/-- A well-formed frame with a Code reaches a locked part that is running, and the part's role in it is given (R107,
R108), whatever the trunk receiver waits for when the frame's row begins (log entry 2). -/
structure MeetsFrame (role : Role) (code : Byte) (f : ReqFrame) (s : State) : Prop where
  running : s.inReset = false
  locked : s.ct.lock = .locked
  wellFormed : f.wellFormed = true
  role : decideRole f.destination code f.claim s.me.address = role

/-- The part becomes the TAKER of a well-formed frame (R108). -/
abbrev TakesFrame (code : Byte) (f : ReqFrame) (s : State) : Prop := MeetsFrame .taker code f s

/-- A frame that carries the open tag, and no Sequence that the reply cache answers: steps 2 to 4 of the gate let it
pass (R122). -/
structure PassesSession (f : ReqFrame) (m : Management) : Prop where
  tag : m.session.map Session.tag = some f.session
  notZero : f.session ≠ 0
  fresh : m.lastSequence = some f.sequence → m.cache = none

/-- The part holds the reply section it will write (R110): Status, Q, the data bytes padded with 00h to R, and the
CRC-16 over them; the frame's fields are as received, and two turnaround characters come next. -/
def withReply (code : Byte) (f : ReqFrame) (st : Status) (data : List Byte) (x : State) : State :=
  x.withSp
    { frameContext code f .taker with
      executed := true
      pendingReply := some
        { status := st
          q := data.length
          data := data ++ List.replicate (f.room.toNat - data.length) 0
          check := crc16 (st.code :: BitVec.ofNat 8 data.length
            :: (data ++ List.replicate (f.room.toNat - data.length) 0)) } }

/-- A request that was taken and answered, on the state its effects left: frames taken, counter 5, counts one, and
the reply is held (R110). -/
def answered (code : Byte) (f : ReqFrame) (st : Status) (data : List Byte) (x : State) : State :=
  withReply code f st data (count 5 x)

/-- What ME keeps of a sessionless request that does not change ME: the inactivity count alone, set to 0 where the
request carries the open tag (R124). -/
def heard (f : ReqFrame) (m : Management) : Management :=
  { m with inactivity := if m.session.map Session.tag = some f.session then 0 else m.inactivity }

/-- What ME keeps of a gated request: the inactivity count 0, the last sequence, and the cached reply (R124). -/
def gated (f : ReqFrame) (st : Status) (data : List Byte) (m : Management) : Management :=
  { m with inactivity := 0, lastSequence := some f.sequence, cache := some { status := st, data := data } }

/-! ### Headers and slots -/

/-- A header notice of number n without the jump mark leaves the switch as it is: ARMED for another cycle, GUARDING to
another guard end cycle, or IDLE (R69, R71, R77). -/
abbrev SwitchWaits (n : Byte) (r : SwitchRecord) : Prop :=
  (r.state = .armed → r.cycle ≠ n) ∧ (r.state = .guarding → r.guardEnd ≠ n)

/-- A header notice of number n without the jump mark leaves the deferred capture as it is: ARMED for another cycle, or
IDLE (R167). -/
abbrev CaptureWaits (n : Byte) (d : DeferredCapture) : Prop := d.armed = true → d.cycle ≠ n

/-- The session, if it is OPEN, does not expire at the next header notice (R129). -/
abbrev SessionLasts (m : Management) : Prop :=
  m.session.isSome = true → m.inactivity + 1 < 16 * m.node.sessionTimeout.toNat

/-- Nothing but the header itself is due at a header notice of number n without the jump mark (R69, R71, R129, R167). -/
structure Quiet (n : Byte) (s : State) : Prop where
  switch : SwitchWaits n s.mu.switch
  capture : CaptureWaits n s.cb.deferred
  session : SessionLasts s.me

/-- MU after a header notice of number n that no switch answers (R62). -/
def noted (n : Byte) (m : MapUnit) : MapUnit := { m with switch := { m.switch with lastHeader := some n } }

/-- ME after a header notice at which the session does not expire (R129). -/
def timed (m : Management) : Management :=
  { m with inactivity := if m.session.isSome then m.inactivity + 1 else m.inactivity }

/-- ME's session record once the session has closed (R127). -/
def closed (m : Management) : Management :=
  { m with session := none, inactivity := 0, lastSequence := none, cache := none }

/-- A locked part is about to take, at header position 1, a header that carries the expected number n: received, or
put there because the character is damaged or marked, or regenerated (R21, R22). -/
structure ExpectedHeader (n : Byte) (ch : TrunkBits) (s : State) : Prop where
  ready : trunkReady s
  locked : s.ct.lock = .locked
  position : s.ct.position = .header1
  cycle : s.ct.cycle = some (n - 1)
  noJump : s.ct.coasting = true ∨ ∀ v, classify ch = .plain v → v = n

/-- A locked part is about to take, at header position 1, a header whose received number n is not the expected one
(R21). -/
structure JumpHeader (n : Byte) (ch : TrunkBits) (s : State) : Prop where
  ready : trunkReady s
  locked : s.ct.lock = .locked
  position : s.ct.position = .header1
  cycle : ∃ c, s.ct.cycle = some c ∧ n ≠ c + 1
  notCoasting : s.ct.coasting = false
  received : classify ch = .plain n

/-- CT once it has taken a header of number n in LOCKED, the slots of a cycle of the given length before it (R18). -/
def headed (n : Byte) (length : Nat) (c : CycleTracker) : CycleTracker :=
  { c with cycle := some n, slotsToGo := length, position := .slot 0 }

/-- A locked part is about to take slot i, whose Live entry is e (R46). -/
structure AtSlot (i : SlotIx) (e : Entry) (s : State) : Prop where
  ready : trunkReady s
  locked : s.ct.lock = .locked
  position : s.ct.position = .slot i
  entry : s.mu.live.entries[i] = e

/-- The count of one damaged or marked character in a slot that is not SERVICE (R3, R47). -/
def slotCounted (ch : TrunkBits) (s : State) : State := if usable (classify ch) = none then count 0 s else s

/-- The state once a slot's character has been answered: the next position, and the answer on TO (R1, R2, R18). -/
def slotAnswered (i : SlotIx) (ch : TrunkBits) (out : OutChar) (t : State) : State :=
  (t.withCt { t.ct with slotsToGo := t.ct.slotsToGo - 1
                        position := if t.ct.slotsToGo ≤ 1 then .header0 else .slot (i + 1) }).withTrunk
    { wait := if ch.stop then .fall else .lineHigh, out := some (formTrunk out) }

/-- A character is a sync code (R8). -/
abbrev isSyncCode (ch : TrunkBits) : Prop := classify ch = .sync ∨ classify ch = .syncA

/-! ### What comes about at a trunk character -/

/-- The character gains lock on n (R16, R17). -/
abbrev GainsLock (n : Byte) (ch : TrunkBits) (s : State) : Prop :=
  s.ct.lock = .confirm ∧ s.ct.position = .header1 ∧ classify ch = .plain n ∧ s.ct.reference = some n
    ∧ s.me.node.confirmCount.toNat ≤ s.ct.tally + 1

/-- The character loses lock (R19, R20). -/
abbrev LosesLock (ch : TrunkBits) (s : State) : Prop :=
  s.ct.lock = .locked ∧ s.ct.position = .header0 ∧ ¬ isSyncCode ch ∧ s.me.node.missLimit.toNat ≤ s.ct.missCount + 1

/-- The character gives a header notice of number n, with the jump mark or without (R17, R21, R22, R23). -/
abbrev GivesNotice (n : Byte) (jump : Prop) (ch : TrunkBits) (s : State) : Prop :=
  (GainsLock n ch s ∧ ¬ jump)
  ∨ (s.ct.lock = .locked ∧ s.ct.position = .header1 ∧ s.ct.coasting = false ∧ classify ch = .plain n
      ∧ (jump ↔ n ≠ s.ct.cycle.getD 0 + 1))
  ∨ (s.ct.lock = .locked ∧ s.ct.position = .header1 ∧ (s.ct.coasting = true ∨ ∀ v, classify ch ≠ .plain v)
      ∧ n = s.ct.cycle.getD 0 + 1 ∧ ¬ jump)

/-- The character is judged in a TEST slot by a LOCKED checker, and the Pattern Unit is p right after the judgement,
before a resync (R155). -/
abbrev IsJudged (p : PatternUnit) (ch : TrunkBits) (s : State) : Prop :=
  ∃ (i : SlotIx) (r : PatternRegister), AtSlot i .test s ∧ s.pu.checker = .locked ∧ s.pu.checkerRegister = some r
    ∧ p = judged s.pu r (usable (classify ch))

/-- The ten rows that name a trunk character by what comes about at it, each with what must hold for it, while the
receiver can take a character (spec/95). -/
def comesAbout (ch : TrunkBits) (s : State) : List (Instr × Prop) :=
  [(.fallbackAction ch, s.ct.lock ≠ .locked ∧ (∀ n, ¬ GainsLock n ch s) ∧ s.me.node.fallbackThreshold ≠ 0
      ∧ 256 * s.me.node.fallbackThreshold.toNat ≤ s.ct.fallbackCount + 1),
   (.lockGained ch, ∃ n, GainsLock n ch s),
   (.lockLost ch, LosesLock ch s),
   (.sessionExpired ch, (∃ n jump, GivesNotice n jump ch s) ∧ s.me.session.isSome = true
      ∧ 16 * s.me.node.sessionTimeout.toNat ≤ s.me.inactivity + 1),
   (.switchFire ch, s.mu.switch.state = .armed ∧ GivesNotice s.mu.switch.cycle False ch s),
   (.guardEnd ch, s.mu.switch.state = .guarding ∧ GivesNotice s.mu.switch.guardEnd False ch s),
   (.deferredCapture ch, s.cb.deferred.armed = true ∧ GivesNotice s.cb.deferred.cycle False ch s),
   (.checkerResync ch, ∃ p, IsJudged p ch s ∧ windowMismatches p.window = s.pu.config.threshold),
   (.testDone ch, ∃ p, IsJudged p ch s ∧ s.pu.run = .running ∧ s.pu.mode = .timed ∧ p.checked = s.pu.runLength.elements),
   (.restartCarriedOut ch, s.sp.executed = true ∧ s.me.deferredRestart = true
      ∧ ((∃ i, AtSlot i .service s ∧ (s.sp.parser = .finish ∨ (s.sp.parser ≠ .idle ∧ ∀ v, classify ch ≠ .plain v)))
         ∨ (LosesLock ch s ∧ s.sp.parser ≠ .idle)))]

/-- The Event Queue q' is q after the posts of one instant, in some order in which those of `group` follow one another
(R80, R141). -/
abbrev PostedAtOnce (cycle : Option Byte) (group others : List Post) (q q' : EventQueue) : Prop :=
  ∃ before p after : List Post, p.Perm group ∧ (before ++ after).Perm others
    ∧ q' = (before ++ p ++ after).foldl (fun e x => postTo e cycle x) q

/-- No branch character completes behind the command under way, so that none can fall at its instant (log entry 22). -/
abbrev NoneBehind (s : State) : Prop := ∀ b ch rest, s.pending ≠ .branchCharacterComplete b ch :: rest

end Sys2Proof.Machine

namespace Sys2Proof

open Sys2Proof.Machine

/-- The request that a request row carries (R121); none for the other rows, and for a Code that names no
request. -/
def Instr.request : Instr → Option (ReqName × ReqFrame)
  | .hardReset _ | .hardResetEnd | .trunkCharacterReceived _ | .trunkFalseStart | .fallbackAction _ => none
  | .lockGained _ | .lockLost _ | .sessionExpired _ | .switchFire _ | .guardEnd _ | .deferredCapture _ => none
  | .checkerResync _ | .testDone _ | .restartCarriedOut _ | .branchCharacterComplete _ _ => none
  | .branchFalseStart _ | .branchCharacterSent _ | .trunkLineHigh | .branchLineHigh _ | .branchStartFall _ => none
  | .unknownRequest _ _ => none
  | .identify f => some (.identify, f)
  | .assign f => some (.assign, f)
  | .openSession f => some (.openSession, f)
  | .closeSession f => some (.closeSession, f)
  | .keep f => some (.keep, f)
  | .nodeGet f => some (.nodeGet, f)
  | .nodeSet f => some (.nodeSet, f)
  | .restart f => some (.restart, f)
  | .mapRead f => some (.mapRead, f)
  | .mapWrite f => some (.mapWrite, f)
  | .mapLength f => some (.mapLength, f)
  | .mapCopy f => some (.mapCopy, f)
  | .mapCheck f => some (.mapCheck, f)
  | .arm f => some (.arm, f)
  | .disarm f => some (.disarm, f)
  | .switchStatus f => some (.switchStatus, f)
  | .branchGet f => some (.branchGet, f)
  | .branchSet f => some (.branchSet, f)
  | .enable f | .disable f | .clearHold f | .flushDrop f | .flushInsert f => some (.branchControl, f)
  | .poll f => some (.poll, f)
  | .ack f => some (.ack, f)
  | .testSet f => some (.testSet, f)
  | .testStart f => some (.testStart, f)
  | .testStop f => some (.testStop, f)
  | .testStatus f => some (.testStatus, f)
  | .captureNow f | .captureAtCycle f => some (.capture, f)
  | .readCounters f => some (.readCounters, f)

end Sys2Proof
end

