-- ==== Sys2Proof/Certificates/Slice0/Obligations.lean ====
section
/-!
DEFINITION. The statements about the part, as propositions. Most give the whole next state as an equation, so that what a
command leaves unchanged is said with what it changes.
-/

/-! ### The queue, and the resets -/

section Queue
open Sys2Proof Sys2Proof.Machine

/-- The command at the front of the queue is executed with the queue's rest; on an empty queue the block idles; and
no word spells a command, since no row of the table has bits. The model's own conventions: log entries 6 and 7. -/
def Obligations.StepTakesTheFront : Prop :=
  (∀ (c : Instr) (rest : List Instr) (s : State), step (s.withPending (c :: rest)) = exec c (s.withPending rest))
  ∧ (∀ s : State, s.pending = [] → step s = .next s)
  ∧ (∀ (s : State) (nbits w : Nat), decodeTableWord nbits w = none ∧ s.withFetchWord nbits w = s)

/-- A hard reset begins (R12, R86, R88, R96, R137, R172): TO and the branch lines go to 1, the branches stop, and the
cause is recorded. While a reset lasts, power makes the cause POWER. The model's choice (log entry 9): that every other
field stands until the reset ends, that the trunk receiver waits for the line to be high from its beginning, and that
RESET low during a reset adds nothing. -/
def Obligations.HardResetBegins : Prop :=
  (∀ (source : ResetSource) (s : State), s.inReset = false →
    exec (.hardReset source) s = .next
      ((((s.withInReset true).withTrunk { wait := .lineHigh, out := none }).withBu
          (s.bu.map fun x =>
            { config := x.config, enabled := false, dropQueue := [], insertQueue := [], sending := none,
              receiver := .run, line := .waitHigh, side := .filling, dropReported := false,
              insertReported := false })).withMe
        { s.me with restartCause := match source with | .power => .power | .pin => .pin }))
  ∧ (∀ s : State, s.inReset = true →
      exec (.hardReset .power) s = .next (s.withMe { s.me with restartCause := .power })
      ∧ exec (.hardReset .pin) s = .next s)

/-- A hard reset ends (R12, R13, R33, R34, R62, R83, R84, R105, R120, R133, R137, R138, R148, R163, R164, R166): every
block holds its hard-reset values, with the cause the reset recorded. The queue and the free-choice counter are the
model's own and stay; with no reset to end, nothing changes (log entries 3, 9). -/
def Obligations.HardResetEnds : Prop :=
  ∀ s : State, (s.inReset = false → exec .hardResetEnd s = .next s)
  ∧ (s.inReset = true → ∃ t, exec .hardResetEnd s = .next t
      ∧ t.inReset = false ∧ t.pending = s.pending ∧ t.freeCount = s.freeCount
      ∧ t.trunk = { wait := .lineHigh, out := none }
      ∧ t.ct = { lock := .hunt, tally := 0, reference := none, missCount := 0, cycle := none, position := .none,
                 slotsToGo := 0, coasting := false, fallbackCount := 0 }
      ∧ t.mu.live.length = 16 ∧ t.mu.pendingMap = t.mu.live
      ∧ (∀ i : SlotIx, t.mu.live.entries[i] = if i.val = 0 ∨ i.val = 8 then .service else .pass)
      ∧ t.mu.switch = { state := .idle, cycle := 0, groups := 0, guardLength := 0, guardEnd := 0, moved := 0,
                        held := 0, guarded := 0, armingTag := 0, outcome := .none, reason := .none,
                        outcomeSwitch := 0, outcomeCycle := none, lastHeader := none }
      ∧ (∀ b : BranchNo, t.bu[b] =
          { config := { sevenBits := false, parity := .none, twoStops := false, divisor := 1, policy := .discard,
                        startLevel := 0 }
            enabled := false, dropQueue := [], insertQueue := [], sending := none, receiver := .run,
            line := .waitHigh, side := .filling, dropReported := false, insertReported := false })
      ∧ t.sp = { parser := .idle, place := 0, role := .none, destination := none, code := none, claim := none,
                 controller := none, session := none, sequence := none, room := none, length := none, params := [],
                 runningCheck := 0xFFFF, checkHigh := none, checkLow := none, executed := false,
                 pendingReply := none }
      ∧ t.me = { address := 0, session := none, inactivity := 0, lastSequence := none, cache := none,
                 tagCounter := 0
                 node := { fill := 0xFF, guardLength := 2, sessionTimeout := 16, confirmCount := 3, missLimit := 2,
                           fallbackThreshold := 64, attention := true, clearOnCapture := false }
                 restartCause := s.me.restartCause, deferredRestart := false }
      ∧ t.eq = { events := [{ sequence := 0, kind := .restarted, cycle := none,
                              detail := [match s.me.restartCause with | .power => 0 | .pin => 1 | .request => 2, 0] }]
                 nextSequence := 1 }
      ∧ t.pu = { config := { generatorOn := false, generatorPattern := .prbs15, checkerOn := false,
                             checkerPattern := .prbs15, word := 0, threshold := 4 }
                 generator := .prbs15 0x7FFF, checker := .off, checkerRegister := none, progress := .empty,
                 window := [], run := .idle, mode := .continuous, runLength := .len256, checked := 0, errors := 0,
                 resyncs := 0, stopped := false }
      ∧ (∀ i : CounterIx, t.cb.live[i] = 0 ∧ t.cb.capture.values[i] = 0)
      ∧ t.cb.capture.number = 0 ∧ t.cb.capture.cycle = none
      ∧ t.cb.deferred = { armed := false, cycle := 0 })

/-- The state after reset meets the laws that every step keeps. -/
def Obligations.ResetMeetsTheLaws : Prop :=
  eventLaw State.reset.eq ∧ mapLaw State.reset.mu ∧ managementLaw State.reset ∧ trackerLaw State.reset.ct
  ∧ frameLaw State.reset.sp ∧ patternLaw State.reset.pu ∧ ∀ b : BranchNo, branchLaw State.reset.bu[b]

end Queue

/-! ### Characters of the lines -/

section Characters
open Sys2Proof Sys2Proof.Machine

/-- The characters the part sends are well formed, and every received character is judged by its stop bit and its
parity and then classified (R1, R3, R4). -/
def Obligations.TrunkCharactersAreFormedAndRead : Prop :=
  (∀ c : OutChar, (formTrunk c).data = c.data ∧ (formTrunk c).mark = c.mark ∧ (formTrunk c).stop = true
    ∧ (trunkLevels (formTrunk c)).length = 12
    ∧ ((List.range 8).countP c.data.getLsbD + c.mark.toNat + (formTrunk c).parity.toNat) % 2 = 1)
  ∧ (∀ t : TrunkBits, classify t = .damaged ↔
      t.stop = false ∨ ((List.range 8).countP t.data.getLsbD + t.mark.toNat + t.parity.toNat) % 2 = 0)
  ∧ (∀ t : TrunkBits, classify t ≠ .damaged →
      (t.mark = false → classify t = .plain t.data)
      ∧ (t.mark = true →
          (t.data = 0x3C → classify t = .sync) ∧ (t.data = 0x3D → classify t = .syncA)
          ∧ (t.data = 0x51 → classify t = .fs) ∧ (t.data = 0x5E → classify t = .fe)
          ∧ (t.data = 0x00 → classify t = .sidle)
          ∧ (t.data ≠ 0x3C → t.data ≠ 0x3D → t.data ≠ 0x51 → t.data ≠ 0x5E → t.data ≠ 0x00 →
              classify t = .stray t.data)))

/-- What a branch transmitter sends under a record, a receiver under the same record takes as a good character of the
same data bits; the character has the length of R84; a parity bit that does not agree with the record makes it bad,
with parity NONE it is not looked at, and a stop bit of 0 always makes it bad (R84, R85, R89). -/
def Obligations.BranchFormatAgrees : Prop :=
  ∀ (c : BranchConfig) (v : Byte) (ones : Nat),
    ones = (List.range (if c.sevenBits then 7 else 8)).countP v.getLsbD →
    branchValue c { data := v, parity := (branchLevels c v).getD (if c.sevenBits then 8 else 9) false, stop := true }
      = some (if c.sevenBits then v &&& 0x7F else v)
    ∧ (branchLevels c v).length = 1 + (if c.sevenBits then 7 else 8) + (if c.parity = .none then 0 else 1)
        + (if c.twoStops then 2 else 1)
    ∧ (branchLevels c v).head? = some false ∧ (branchLevels c v).getLast? = some true
    ∧ (∀ k, k < (if c.sevenBits then 7 else 8) → (branchLevels c v)[k + 1]? = some (v.getLsbD k))
    ∧ (∀ p : Bool, branchValue c { data := v, parity := p, stop := true } =
        if c.parity = .none ∨ (c.parity = .even ∧ (ones + p.toNat) % 2 = 0) ∨ (c.parity = .odd ∧ (ones + p.toNat) % 2 = 1)
        then some (if c.sevenBits then v &&& 0x7F else v) else none)
    ∧ (∀ p : Bool, branchValue c { data := v, parity := p, stop := false } = none)

/-- A character received while the receiver waits for a fall is answered by exactly one character on TO, formed by R1;
the ten rows that name such a character are that same step where what they name comes about, and no step where it does
not; and nothing is received in any of the eleven rows while a reset lasts or the line must first return to 1 (R2, R11,
R12). That a row is no step where its event does not come about is the model's choice (log entry 1). -/
def Obligations.EveryCharacterIsAnswered : Prop :=
  ∀ (ch : TrunkBits) (s : State),
    (trunkReady s → ∃ t c, exec (.trunkCharacterReceived ch) s = .next t
      ∧ t.trunk = { wait := if ch.stop then .fall else .lineHigh, out := some (formTrunk c) }
      ∧ t.inReset = false ∧ t.pending = s.pending
      ∧ ∀ p ∈ comesAbout ch s, (p.2 → exec p.1 s = .next t) ∧ (¬ p.2 → exec p.1 s = .next s))
    ∧ (¬ trunkReady s → exec (.trunkCharacterReceived ch) s = .next s ∧ ∀ p ∈ comesAbout ch s, exec p.1 s = .next s)

/-- While the part is not LOCKED a character that is not damaged leaves it bit for bit as it came, a damaged one as the
plain fill byte, and no branch, frame or pattern is touched (R25). -/
def Obligations.UnlockedPartIsTransparent : Prop :=
  ∀ (ch : TrunkBits) (s : State), trunkReady s → s.ct.lock ≠ .locked →
    ∃ t, exec (.trunkCharacterReceived ch) s = .next t
      ∧ t.trunk.out = some (if classify ch = .damaged then formTrunk { mark := false, data := s.me.node.fill } else ch)
      ∧ t.bu = s.bu ∧ t.sp = s.sp ∧ t.pu = s.pu ∧ t.pending = s.pending

/-- The rows that happen on the lines between characters (R2, R88, R89): TI sampled at 1 lets the trunk receiver wait
for a fall, a false start changes nothing, and a branch's line state moves from WAIT_HIGH to WAIT_START, to
RECEIVING, and back at a false start; each in its own state and not while a reset lasts (log entry 4). -/
def Obligations.LinesMoveBetweenCharacters : Prop :=
  (∀ s : State, exec .trunkFalseStart s = .next s)
  ∧ (∀ s : State, exec .trunkLineHigh s = .next
      (if s.inReset = false ∧ s.trunk.wait = .lineHigh then s.withTrunk { wait := .fall, out := s.trunk.out } else s))
  ∧ (∀ (b : BranchNo) (s : State) (l : ReceiverLine), s.bu[b].line = l →
      exec (.branchLineHigh b) s = .next
        (if s.inReset = false ∧ s.bu[b].enabled = true ∧ l = .waitHigh then
          s.withBranch b { s.bu[b] with line := .waitStart } else s)
      ∧ exec (.branchStartFall b) s = .next
        (if s.inReset = false ∧ s.bu[b].enabled = true ∧ l = .waitStart then
          s.withBranch b { s.bu[b] with line := .receiving } else s)
      ∧ exec (.branchFalseStart b) s = .next
        (if s.inReset = false ∧ s.bu[b].enabled = true ∧ l = .receiving then
          s.withBranch b { s.bu[b] with line := .waitStart } else s))

/-- A character that completes on an enabled branch's line (R89 to R93), and one whose last stop bit has been sent
(R88). The line state follows the stop bit; then a good character in RUN is pushed, or discarded at a full queue; a bad
one counts a receive error and under HOLD holds the receiver; in HOLD a good one is an insert discard. -/
def Obligations.BranchCharactersComeAndGo : Prop :=
  (∀ (b : BranchNo) (ch : BranchBits) (s : State) (x : Branch), s.inReset = false → s.bu[b].enabled = true →
    s.bu[b].line = .receiving →
    x = { s.bu[b] with line := if ch.stop then .waitStart else .waitHigh } →
    (∀ v, branchValue x.config ch = some v → x.receiver = .run → x.insertQueue.length < 32 →
      exec (.branchCharacterComplete b ch) s = .next (s.withBranch b
        { x with insertQueue := x.insertQueue ++ [v]
                 side := if x.side = .filling ∧ x.insertQueue.length + 1 = x.config.startLevel then .flowing
                         else x.side }))
    ∧ (∀ v, branchValue x.config ch = some v → x.receiver = .hold ∨ 32 ≤ x.insertQueue.length →
      exec (.branchCharacterComplete b ch) s = .next
        (if x.insertReported then (count ⟨9 + 4 * b.val, by omega⟩ s).withBranch b x
         else ((count ⟨9 + 4 * b.val, by omega⟩ s).withEq
            (postTo s.eq (if s.ct.lock = .locked then s.ct.cycle else none)
              { kind := .insertOverrun, detail := [BitVec.ofNat 8 b.val] })).withBranch b
            { x with insertReported := true }))
    ∧ (branchValue x.config ch = none → x.receiver = .hold ∨ x.config.policy = .discard →
      exec (.branchCharacterComplete b ch) s = .next ((count ⟨11 + 4 * b.val, by omega⟩ s).withBranch b x))
    ∧ (branchValue x.config ch = none → x.receiver = .run → x.config.policy = .hold →
      exec (.branchCharacterComplete b ch) s = .next
        (((count ⟨11 + 4 * b.val, by omega⟩ s).withEq
            (postTo s.eq (if s.ct.lock = .locked then s.ct.cycle else none)
              { kind := .branchHold, detail := [BitVec.ofNat 8 b.val] })).withBranch b { x with receiver := .hold })))
  ∧ (∀ (b : BranchNo) (s : State), s.inReset = false → s.bu[b].enabled = true → s.bu[b].sending.isSome = true →
      (s.bu[b].dropQueue = [] →
        exec (.branchCharacterSent b) s = .next (s.withBranch b { s.bu[b] with sending := none }))
      ∧ (∀ v rest, s.bu[b].dropQueue = v :: rest →
        exec (.branchCharacterSent b) s = .next (s.withBranch b
          { s.bu[b] with sending := some v, dropQueue := rest
                         dropReported := s.bu[b].dropReported && !rest.isEmpty })))

end Characters

/-! ### Cycle tracking -/

section Tracking
open Sys2Proof Sys2Proof.Machine

/-- HUNT and CONFIRM, character by character, where a character neither gains lock nor brings the fallback count to its
threshold (R14, R15, R16, R25, R26, R28): where CT goes, the count of a damaged character, the fallback count (which
stands while the threshold is 0), and the answer. The position none and the tally 0 on the return to HUNT are the
model's choice (log entry 12). -/
def Obligations.HuntAndConfirm : Prop :=
  ∀ (ch : TrunkBits) (s : State), trunkReady s → s.ct.lock ≠ .locked →
    (∀ n, s.ct.lock = .confirm → s.ct.position = .header1 → classify ch = .plain n → s.ct.reference = some n →
      s.ct.tally + 1 < s.me.node.confirmCount.toNat) →
    (s.me.node.fallbackThreshold = 0 ∨ s.ct.fallbackCount + 1 < 256 * s.me.node.fallbackThreshold.toNat) →
    ∃ c : CycleTracker,
      exec (.trunkCharacterReceived ch) s = .next
        (((if classify ch = .damaged then count 0 s else s).withCt
            { c with fallbackCount := if s.me.node.fallbackThreshold = 0 then s.ct.fallbackCount
                                      else s.ct.fallbackCount + 1 }).withTrunk
          { wait := if ch.stop then .fall else .lineHigh
            out := some (if classify ch = .damaged then formTrunk { mark := false, data := s.me.node.fill } else ch) })
      ∧ c.missCount = s.ct.missCount ∧ c.cycle = s.ct.cycle ∧ c.coasting = s.ct.coasting ∧ c.lock ≠ .locked
      -- a sync code opens a header wherever one is looked for, but for header position 0 of CONFIRM and its slots
      ∧ (isSyncCode ch → s.ct.lock = .hunt ∨ s.ct.position = .awaitingNumber ∨ s.ct.position = .header1 →
          c.lock = .confirm ∧ c.position = .awaitingNumber ∧ c.tally = 0)
      ∧ (isSyncCode ch → s.ct.lock = .confirm → s.ct.position = .header0 →
          c = { s.ct with position := .header1 })
      -- the number of a header
      ∧ (∀ n, classify ch = .plain n → s.ct.lock = .confirm → s.ct.position = .awaitingNumber →
          c = { s.ct with tally := 1, reference := some (n + 1), slotsToGo := s.mu.live.length, position := .slot 0 })
      ∧ (∀ n, classify ch = .plain n → s.ct.lock = .confirm → s.ct.position = .header1 → s.ct.reference = some n →
          c = { s.ct with tally := s.ct.tally + 1, reference := some (n + 1), slotsToGo := s.mu.live.length,
                          position := .slot 0 })
      -- the slots of a cycle are counted, whatever they hold
      ∧ (∀ i, s.ct.lock = .confirm → s.ct.position = .slot i →
          c = { s.ct with slotsToGo := s.ct.slotsToGo - 1
                          position := if s.ct.slotsToGo ≤ 1 then .header0 else .slot (i + 1) })
      -- anything else leaves CT in HUNT
      ∧ (¬ isSyncCode ch → (∀ n, classify ch = .plain n →
            ¬(s.ct.lock = .confirm ∧ (s.ct.position = .awaitingNumber
              ∨ (s.ct.position = .header1 ∧ s.ct.reference = some n)))) →
          (∀ i, ¬(s.ct.lock = .confirm ∧ s.ct.position = .slot i)) →
          c.lock = .hunt ∧ c.position = .none ∧ c.tally = 0)

/-- LOCK_GAINED (R16, R17, R18, R23): the plain character equal to the reference number that brings the tally to the
confirm count. The number goes on unchanged and the Live length is taken after MU has dealt with the notice; where
nothing else is due the whole next state is given, LOCK_GAINED the one post. -/
def Obligations.LockIsGained : Prop :=
  ∀ (ch : TrunkBits) (n : Byte) (s : State), trunkReady s → s.ct.lock = .confirm → s.ct.position = .header1 →
    classify ch = .plain n → s.ct.reference = some n → s.me.node.confirmCount.toNat ≤ s.ct.tally + 1 →
    (∃ t, exec (.lockGained ch) s = .next t
      ∧ t.ct = { lock := .locked, tally := 0, reference := none, missCount := 0, cycle := some n, position := .slot 0,
                 slotsToGo := t.mu.live.length, coasting := false, fallbackCount := 0 }
      ∧ t.trunk = { wait := .fall, out := some ch } ∧ t.mu.pendingMap = s.mu.pendingMap
      ∧ t.bu = s.bu ∧ t.sp = s.sp ∧ t.pu = s.pu ∧ t.pending = s.pending)
    ∧ (Quiet n s → exec (.lockGained ch) s = .next
        (((((s.withCt { lock := .locked, tally := 0, reference := none, missCount := 0, cycle := some n,
                        position := .slot 0, slotsToGo := s.mu.live.length, coasting := false,
                        fallbackCount := 0 }).withMu (noted n s.mu)).withMe (timed s.me)).withEq
            (postTo s.eq (some n) { kind := .lockGained, detail := [] })).withTrunk
          { wait := .fall, out := some ch }))

/-- LOCK_LOST (R19, R20, R25, R28, R74, R115, R156, R167): the miss that brings the miss count to the miss limit, where
the frame it may abort carries no executed RESTART (that loss is stated with RESTART_CARRIED_OUT). CT's state, the
counters, the frame in passage, the switch, the deferred capture and the checker; and the posts of the character, in
some order, that of the switch next to LOCK_LOST (R80, R141). The model's choice: slots to go 0 (log entry 12), and
the place 0 of the aborted frame (log entry 11). -/
def Obligations.LockIsLost : Prop :=
  ∀ (ch : TrunkBits) (s : State), trunkReady s → s.ct.lock = .locked → s.ct.position = .header0 → ¬ isSyncCode ch →
    s.me.node.missLimit.toNat ≤ s.ct.missCount + 1 →
    ¬(s.sp.parser ≠ .idle ∧ s.sp.executed = true ∧ s.me.deferredRestart = true) →
    ∃ t, exec (.lockLost ch) s = .next t
      ∧ t.ct = { s.ct with lock := .hunt, missCount := 0, coasting := false, position := .none, slotsToGo := 0,
                           cycle := none }
      ∧ t.trunk = { wait := if ch.stop then .fall else .lineHigh
                    out := some (if classify ch = .damaged then formTrunk { mark := false, data := s.me.node.fill }
                                 else ch) }
      ∧ (∀ i : CounterIx, t.cb.live[i] =
          if i.val = 1 ∨ i.val = 2 ∨ (i.val = 7 ∧ s.sp.parser ≠ .idle) ∨ (i.val = 0 ∧ classify ch = .damaged) then
            (if s.cb.live[i] = 0xFFFF then 0xFFFF else s.cb.live[i] + 1)
          else s.cb.live[i])
      ∧ t.cb.capture = s.cb.capture ∧ t.cb.deferred = { s.cb.deferred with armed := false }
      ∧ t.sp = (if s.sp.parser = .idle then s.sp
                else { s.sp with parser := .idle, place := 0, role := .none, executed := false, pendingReply := none })
      ∧ t.pu = (if s.pu.checker = .off then s.pu
                else { s.pu with checker := .seek, checkerRegister := none, progress := .empty, window := [] })
      ∧ t.me = s.me ∧ t.bu = s.bu ∧ t.inReset = s.inReset ∧ t.pending = s.pending
      ∧ (s.mu.switch.state = .idle → t.mu = s.mu)
      ∧ (s.mu.switch.state = .armed → t.mu = { s.mu with
          switch := { s.mu.switch with state := .idle, outcome := .abandoned, reason := .lockLost,
                                       outcomeSwitch := s.mu.switch.cycle, outcomeCycle := s.mu.switch.lastHeader } })
      ∧ (s.mu.switch.state = .guarding →
          t.mu.pendingMap = s.mu.pendingMap ∧ t.mu.live.length = s.mu.live.length
          ∧ (∀ i : SlotIx, t.mu.live.entries[i] =
              if s.mu.live.entries[i] = .guard then s.mu.pendingMap.entries[i] else s.mu.live.entries[i])
          ∧ t.mu.switch = { s.mu.switch with state := .idle, outcome := .done, reason := .lockLost,
                                             outcomeSwitch := s.mu.switch.cycle, outcomeCycle := s.mu.switch.lastHeader })
      ∧ PostedAtOnce none
          ({ kind := .lockLost, detail := [s.ct.cycle.getD 0] } ::
            match s.mu.switch.state with
            | .idle => []
            | .armed => [{ kind := .switchAbandoned, detail := [s.mu.switch.cycle, 0x02] }]
            | .guarding =>
              [{ kind := .switchDone
                 detail := [s.mu.switch.cycle, BitVec.ofNat 8 s.mu.switch.moved, BitVec.ofNat 8 s.mu.switch.held,
                            BitVec.ofNat 8 s.mu.switch.guarded, 1] }])
          (if s.cb.deferred.armed then [{ kind := .captureAbandoned, detail := [0x02] }] else []) s.eq t.eq

/-- Header position 0 in LOCKED, below the miss limit (R19, R24, R28): a good sync ends a run of misses; a miss is
counted, the header is regenerated and the part coasts. SYNC-A is sent where one was received or where the Event Queue
asks for attention (R8, R146). -/
def Obligations.HeaderSyncIsSentOrRegenerated : Prop :=
  ∀ (ch : TrunkBits) (s : State) (out : OutChar), trunkReady s → s.ct.lock = .locked → s.ct.position = .header0 →
    out = { mark := true
            data := if classify ch = .syncA ∨ (s.eq.events ≠ [] ∧ s.me.node.attention = true) then 0x3D else 0x3C } →
    (isSyncCode ch → exec (.trunkCharacterReceived ch) s = .next
      ((s.withCt { s.ct with missCount := 0, coasting := false, position := .header1 }).withTrunk
        { wait := .fall, out := some (formTrunk out) }))
    ∧ (¬ isSyncCode ch → s.ct.missCount + 1 < s.me.node.missLimit.toNat →
      exec (.trunkCharacterReceived ch) s = .next
        (((count 1 (if classify ch = .damaged then count 0 s else s)).withCt
            { s.ct with missCount := s.ct.missCount + 1, coasting := true, position := .header1 }).withTrunk
          { wait := if ch.stop then .fall else .lineHigh, out := some (formTrunk out) }))

/-- Header position 1 in LOCKED where nothing else is due (R21, R22, R23, R28, R69, R71, R77, R129, R167): the expected
number is adopted and sent where it arrives, where a damaged or marked character does, and whatever arrives while
coasting; a switch ARMED for another cycle waits on, a guard that ends at another runs on, and a deferred capture for
another stays ARMED. Another plain number is a cycle jump, given here with no switch and no capture in flight. -/
def Obligations.HeaderNumberIsAdopted : Prop :=
  ∀ (ch : TrunkBits) (n : Byte) (s : State), Quiet n s →
    (ExpectedHeader n ch s → exec (.trunkCharacterReceived ch) s = .next
      (((((if classify ch = .damaged ∨ ((classify ch).isMarked = true ∧ s.ct.coasting = false) then count 0 s else s).withCt
            (headed n s.mu.live.length s.ct)).withMu (noted n s.mu)).withMe (timed s.me)).withTrunk
        { wait := if ch.stop then .fall else .lineHigh, out := some (formTrunk { mark := false, data := n }) }))
    ∧ (JumpHeader n ch s → s.mu.switch.state = .idle → s.cb.deferred.armed = false →
      exec (.trunkCharacterReceived ch) s = .next
      ((((((count 3 s).withCt (headed n s.mu.live.length s.ct)).withMu (noted n s.mu)).withMe (timed s.me)).withEq
          (postTo s.eq (some n) { kind := .cycleJump, detail := [s.ct.cycle.getD 0 + 1, n] })).withTrunk
        { wait := .fall, out := some ch }))

/-- A cycle jump with work in flight (R72, R73, R80, R129, R141, R167): an ARMED switch is abandoned; a guard is completed where
the distance from C to the number is G or more, and runs on where it is less; a deferred capture is abandoned without
a snapshot; and the notice counts for the session like any other. The posts of the character come in some order, that
of the switch next to CYCLE_JUMP. -/
def Obligations.CycleJumpEndsWorkInFlight : Prop :=
  ∀ (ch : TrunkBits) (n : Byte) (s : State), JumpHeader n ch s →
    ∃ t, exec (.trunkCharacterReceived ch) s = .next t
      ∧ t.ct = headed n t.mu.live.length s.ct ∧ t.trunk = { wait := .fall, out := some ch }
      ∧ t.bu = s.bu ∧ t.sp = s.sp ∧ t.pu = s.pu ∧ t.mu.pendingMap = s.mu.pendingMap ∧ t.pending = s.pending
      ∧ (s.me.session = none → t.me = s.me)
      ∧ t.cb = { live := s.cb.live.set 3 (if s.cb.live[3] = 0xFFFF then 0xFFFF else s.cb.live[3] + 1)
                 capture := s.cb.capture, deferred := { s.cb.deferred with armed := false } }
      ∧ (∀ k, s.me.session = some k → s.me.inactivity + 1 < 16 * s.me.node.sessionTimeout.toNat →
          t.me = { s.me with inactivity := s.me.inactivity + 1 })
      ∧ (∀ k, s.me.session = some k → 16 * s.me.node.sessionTimeout.toNat ≤ s.me.inactivity + 1 →
          t.me = closed s.me)
      ∧ (s.mu.switch.state = .idle → t.mu = noted n s.mu)
      ∧ (s.mu.switch.state = .armed → t.mu = { s.mu with
          switch := { s.mu.switch with state := .idle, outcome := .abandoned, reason := .cycleJump, lastHeader := some n,
                                       outcomeSwitch := s.mu.switch.cycle, outcomeCycle := some n } })
      ∧ (s.mu.switch.state = .guarding → (n - s.mu.switch.cycle).toNat < s.mu.switch.guardLength.toNat →
          t.mu = noted n s.mu)
      ∧ (s.mu.switch.state = .guarding → s.mu.switch.guardLength.toNat ≤ (n - s.mu.switch.cycle).toNat →
          t.mu.live.length = s.mu.live.length
          ∧ (∀ i : SlotIx, t.mu.live.entries[i] =
              if s.mu.live.entries[i] = .guard then s.mu.pendingMap.entries[i] else s.mu.live.entries[i])
          ∧ t.mu.switch = { s.mu.switch with state := .idle, outcome := .done, reason := .none, lastHeader := some n,
                                             outcomeSwitch := s.mu.switch.cycle, outcomeCycle := some n })
      ∧ PostedAtOnce (some n)
          ({ kind := .cycleJump, detail := [s.ct.cycle.getD 0 + 1, n] } ::
            match s.mu.switch.state with
            | .idle => []
            | .armed => [{ kind := .switchAbandoned, detail := [s.mu.switch.cycle, 0x01] }]
            | .guarding =>
              if s.mu.switch.guardLength.toNat ≤ (n - s.mu.switch.cycle).toNat then
                [{ kind := .switchDone
                   detail := [s.mu.switch.cycle, BitVec.ofNat 8 s.mu.switch.moved, BitVec.ofNat 8 s.mu.switch.held,
                              BitVec.ofNat 8 s.mu.switch.guarded, 0] }]
              else [])
          ((match s.me.session with
            | some k =>
              if 16 * s.me.node.sessionTimeout.toNat ≤ s.me.inactivity + 1 then
                [{ kind := .sessionExpired, detail := [k.owner, k.tag] }]
              else []
            | none => [])
           ++ (if s.cb.deferred.armed then [{ kind := .captureAbandoned, detail := [0x01] }] else [])) s.eq t.eq

/-- FALLBACK_ACTION (R26, R27, R34, R75): the character that brings the fallback count to its threshold. Where either map
differs from the bootstrap map, at any index or in its length, both become the bootstrap map, the session closes and
FALLBACK is posted without a cycle field; in both cases the count becomes 0, and the switch record and every other
block stand. -/
def Obligations.FallbackRevertsTheMaps : Prop :=
  ∀ (ch : TrunkBits) (s : State), trunkReady s → s.ct.lock ≠ .locked →
    (∀ n, s.ct.lock = .confirm → s.ct.position = .header1 → classify ch = .plain n → s.ct.reference = some n →
      s.ct.tally + 1 < s.me.node.confirmCount.toNat) →
    s.me.node.fallbackThreshold ≠ 0 → 256 * s.me.node.fallbackThreshold.toNat ≤ s.ct.fallbackCount + 1 →
    ∃ t, exec (.fallbackAction ch) s = .next t
      ∧ t.ct.fallbackCount = 0 ∧ t.ct.lock ≠ .locked ∧ t.ct.cycle = s.ct.cycle
      ∧ t.ct.missCount = s.ct.missCount ∧ t.ct.coasting = s.ct.coasting
      ∧ t.trunk = { wait := if ch.stop then .fall else .lineHigh
                    out := some (if classify ch = .damaged then formTrunk { mark := false, data := s.me.node.fill }
                                 else ch) }
      ∧ t.bu = s.bu ∧ t.sp = s.sp ∧ t.pu = s.pu ∧ t.mu.switch = s.mu.switch ∧ t.pending = s.pending
      ∧ t.cb = (if classify ch = .damaged then count 0 s else s).cb
      ∧ (s.mu.live = SlotMap.bootstrap ∧ s.mu.pendingMap = SlotMap.bootstrap →
          t.mu = s.mu ∧ t.me = s.me ∧ t.eq = s.eq)
      ∧ (s.mu.live ≠ SlotMap.bootstrap ∨ s.mu.pendingMap ≠ SlotMap.bootstrap →
          t.mu.live = SlotMap.bootstrap ∧ t.mu.pendingMap = SlotMap.bootstrap ∧ t.me = closed s.me
          ∧ t.eq = postTo s.eq none { kind := .fallback, detail := [] })

/-- SESSION_EXPIRED (R17, R127, R129): the header notice, of any header taken in LOCKED, the one that gains lock among
them, at which the inactivity count, increased by one, reaches or passes 16 times the timeout. The session closes;
where no other post falls at the header, SESSION_EXPIRED with the owner and the tag is the one record, beside LOCK_GAINED
where lock is gained, and nothing but the header's own work is done. -/
def Obligations.SessionExpires : Prop :=
  ∀ (ch : TrunkBits) (n : Byte) (s : State) (k : Session),
    ExpectedHeader n ch s ∨ JumpHeader n ch s ∨ (trunkReady s ∧ GainsLock n ch s) →
    s.me.session = some k → 16 * s.me.node.sessionTimeout.toNat ≤ s.me.inactivity + 1 →
    ∃ t, exec (.sessionExpired ch) s = .next t ∧ t.me = closed s.me
      ∧ t.trunk.out = some (formTrunk { mark := false, data := n })
      ∧ t.mu.pendingMap = s.mu.pendingMap ∧ t.bu = s.bu ∧ t.sp = s.sp ∧ t.pu = s.pu ∧ t.pending = s.pending
      ∧ (s.ct.lock = .locked → t.ct = headed n t.mu.live.length s.ct)
      ∧ (s.ct.lock = .confirm → t.ct =
          { lock := .locked, tally := 0, reference := none, missCount := 0, cycle := some n, position := .slot 0
            slotsToGo := t.mu.live.length, coasting := false, fallbackCount := 0 })
      ∧ (ExpectedHeader n ch s → SwitchWaits n s.mu.switch → CaptureWaits n s.cb.deferred →
          t.eq = postTo s.eq (some n) { kind := .sessionExpired, detail := [k.owner, k.tag] }
          ∧ t.mu = noted n s.mu
          ∧ t.cb = (if classify ch = .damaged ∨ ((classify ch).isMarked = true ∧ s.ct.coasting = false) then count 0 s
                    else s).cb)
      ∧ (s.ct.lock = .confirm → SwitchWaits n s.mu.switch → CaptureWaits n s.cb.deferred →
          PostedAtOnce (some n) [{ kind := .lockGained, detail := [] }]
            [{ kind := .sessionExpired, detail := [k.owner, k.tag] }] s.eq t.eq
          ∧ t.mu = noted n s.mu ∧ t.cb = s.cb)

end Tracking

/-! ### The switch and the deferred capture at their headers -/

section Switching
open Sys2Proof Sys2Proof.Machine

/-- SWITCH_FIRE (R67 to R70): the expected header of the switch cycle, received or regenerated. A tested index moves
where both its owner groups are in S; a moving index below L' at which a branch acquires a slot takes GUARD while G is
greater than 0, every other moving index its Pending entry, and the rest keep their Live entries. Without a guarded
index the switch ends there, DONE, with SWITCH_DONE posted; with one it is GUARDING. -/
def Obligations.SwitchFires : Prop :=
  ∀ (ch : TrunkBits) (n : Byte) (s : State) (r : SwitchRecord) (inSet : Option Nat → Prop)
    (mv gd : SlotIx → Prop) (L' : Nat), ExpectedHeader n ch s → r = s.mu.switch → r.state = .armed → r.cycle = n →
    (∀ o, inSet o ↔ ∃ g, o = some g ∧ r.groups.getLsbD g = true) →
    L' = (if r.groups = 0x1F then s.mu.pendingMap.length else s.mu.live.length) →
    (∀ i, mv i ↔ i.val < max s.mu.live.length s.mu.pendingMap.length
      ∧ inSet (if s.mu.live.length ≤ i.val then some 4 else s.mu.live.entries[i].group)
      ∧ inSet s.mu.pendingMap.entries[i].group) →
    (∀ i, gd i ↔ mv i ∧ i.val < L' ∧ r.guardLength ≠ 0
      ∧ ∃ b, s.mu.pendingMap.entries[i].branch = some b ∧ s.mu.live.entries[i].branch ≠ some b) →
    ∃ t, exec (.switchFire ch) s = .next t
      ∧ t.mu.live.length = L' ∧ t.mu.pendingMap = s.mu.pendingMap
      ∧ (∀ i, gd i → t.mu.live.entries[i] = .guard)
      ∧ (∀ i, mv i → ¬ gd i → t.mu.live.entries[i] = s.mu.pendingMap.entries[i])
      ∧ (∀ i, ¬ mv i → t.mu.live.entries[i] = s.mu.live.entries[i])
      ∧ ((∃ i, gd i) → t.mu.switch = { r with state := .guarding, lastHeader := some n })
      ∧ ((∀ i, ¬ gd i) → t.mu.switch =
          { r with state := .idle, outcome := .done, reason := .none, outcomeSwitch := r.cycle,
                   outcomeCycle := some n, lastHeader := some n })
      ∧ t.ct = headed n L' s.ct ∧ t.trunk.out = some (formTrunk { mark := false, data := n })
      ∧ t.bu = s.bu ∧ t.sp = s.sp ∧ t.pu = s.pu ∧ t.pending = s.pending
      ∧ (SessionLasts s.me →
          t.me = timed s.me
          ∧ (CaptureWaits n s.cb.deferred →
              t.cb = (if classify ch = .damaged ∨ ((classify ch).isMarked = true ∧ s.ct.coasting = false) then count 0 s
                      else s).cb
              ∧ ((∃ i, gd i) → t.eq = s.eq)
              ∧ ((∀ i, ¬ gd i) → t.eq = postTo s.eq (some n)
                  { kind := .switchDone
                    detail := [r.cycle, BitVec.ofNat 8 r.moved, BitVec.ofNat 8 r.held, BitVec.ofNat 8 r.guarded, 0] })))

/-- GUARD_END (R63, R71, R80): the expected header of the guard end cycle. Every GUARD entry of Live takes its Pending
entry, the length stands, the switch is IDLE with outcome DONE, and SWITCH_DONE is posted. -/
def Obligations.GuardEnds : Prop :=
  ∀ (ch : TrunkBits) (n : Byte) (s : State) (r : SwitchRecord), ExpectedHeader n ch s → r = s.mu.switch →
    r.state = .guarding → r.guardEnd = n →
    ∃ t, exec (.guardEnd ch) s = .next t
      ∧ t.mu.live.length = s.mu.live.length ∧ t.mu.pendingMap = s.mu.pendingMap
      ∧ (∀ i : SlotIx, t.mu.live.entries[i] =
          if s.mu.live.entries[i] = .guard then s.mu.pendingMap.entries[i] else s.mu.live.entries[i])
      ∧ t.mu.switch = { r with state := .idle, outcome := .done, reason := .none, outcomeSwitch := r.cycle,
                               outcomeCycle := some n, lastHeader := some n }
      ∧ t.ct = headed n s.mu.live.length s.ct ∧ t.trunk.out = some (formTrunk { mark := false, data := n })
      ∧ t.bu = s.bu ∧ t.sp = s.sp ∧ t.pu = s.pu ∧ t.pending = s.pending
      ∧ (SessionLasts s.me →
          t.me = timed s.me
          ∧ (CaptureWaits n s.cb.deferred →
              t.cb = (if classify ch = .damaged ∨ ((classify ch).isMarked = true ∧ s.ct.coasting = false) then count 0 s
                      else s).cb
              ∧ t.eq = postTo s.eq (some n)
                  { kind := .switchDone
                    detail := [r.cycle, BitVec.ofNat 8 r.moved, BitVec.ofNat 8 r.held, BitVec.ofNat 8 r.guarded, 0] }))

/-- DEFERRED_CAPTURE (R164, R167): the expected header of the captured cycle. The record takes the live counters, the
header's number and the next capture number; the counters are cleared where clear-on-capture is on; the deferred
capture is IDLE; and CAPTURE_DONE is posted. A count CT makes at the same character is in the record or after it, in
either order. -/
def Obligations.DeferredCaptureIsTaken : Prop :=
  ∀ (ch : TrunkBits) (n : Byte) (s : State) (clr : Vector Word16 24 → Vector Word16 24)
    (inc : Vector Word16 24 → Vector Word16 24), ExpectedHeader n ch s → s.cb.deferred.armed = true →
    s.cb.deferred.cycle = n →
    (∀ v, clr v = if s.me.node.clearOnCapture then Vector.replicate 24 0 else v) →
    (∀ v, inc v = if classify ch = .damaged ∨ ((classify ch).isMarked = true ∧ s.ct.coasting = false) then
        v.set 0 (if v[0] = 0xFFFF then 0xFFFF else v[0] + 1) else v) →
    ∃ t, exec (.deferredCapture ch) s = .next t
      ∧ t.cb.deferred = { armed := false, cycle := n }
      ∧ t.cb.capture.number = s.cb.capture.number + 1 ∧ t.cb.capture.cycle = some n
      ∧ ((t.cb.capture.values = inc s.cb.live ∧ t.cb.live = clr (inc s.cb.live))
          ∨ (t.cb.capture.values = s.cb.live ∧ t.cb.live = inc (clr s.cb.live)))
      ∧ t.ct = headed n t.mu.live.length s.ct ∧ t.trunk.out = some (formTrunk { mark := false, data := n })
      ∧ t.mu.pendingMap = s.mu.pendingMap ∧ t.bu = s.bu ∧ t.sp = s.sp ∧ t.pu = s.pu ∧ t.pending = s.pending
      ∧ (SessionLasts s.me →
          t.me = timed s.me
          ∧ (SwitchWaits n s.mu.switch → t.mu = noted n s.mu
              ∧ t.eq = postTo s.eq (some n) { kind := .captureDone, detail := [s.cb.capture.number + 1] }))

end Switching

/-! ### Slots -/

section Slots
open Sys2Proof Sys2Proof.Machine

/-- The slots that touch no branch (R47, R48, R49, R51, R53 to R57): PASS and GUARD, and the four branch-facing actions
while their branch is disabled. A usable character passes PASS and TAP unchanged; everywhere else the fill byte is
sent; a damaged or marked character counts one damaged character and nothing else changes but the position. A SERVICE
slot hands the character to the Service Port and sends what it returns. -/
def Obligations.SlotsWithoutABranch : Prop :=
  ∀ (ch : TrunkBits) (i : SlotIx) (e : Entry) (s : State), AtSlot i e s →
    (e = .pass ∨ e = .guard ∨ (∃ b, e.branch = some b ∧ s.bu[b].enabled = false) →
      ∃ out, exec (.trunkCharacterReceived ch) s = .next (slotAnswered i ch out (slotCounted ch s))
        ∧ (∀ v, classify ch = .plain v → (e = .pass ∨ ∃ b, e = .tap b) → out = { mark := false, data := v })
        ∧ ((∀ v, classify ch = .plain v → ¬(e = .pass ∨ ∃ b, e = .tap b)) →
            out = { mark := false, data := s.me.node.fill }))
    ∧ (e = .service → exec (.trunkCharacterReceived ch) s = .next
        (slotAnswered i ch
          (serviceElement (classify ch) (if classify ch = .damaged then [0] else []) s).1
          (serviceElement (classify ch) (if classify ch = .damaged then [0] else []) s).2))

/-- An INSERT slot of an enabled branch (R55, R59): FILLING sends fill and takes nothing; FLOWING sends the oldest byte,
and the reported flag clears where the queue becomes empty; a FLOWING queue that is empty sends fill, counts a starved
slot and leaves the side FILLING, or FLOWING at once at a start level of 0. -/
def Obligations.InsertSlotTakesTheOldestByte : Prop :=
  ∀ (ch : TrunkBits) (i : SlotIx) (b : BranchNo) (s : State) (x : Branch) (fill : OutChar), AtSlot i (.insert b) s →
    x = s.bu[b] → x.enabled = true → fill = { mark := false, data := s.me.node.fill } →
    (x.side = .filling →
      exec (.trunkCharacterReceived ch) s = .next (slotAnswered i ch fill (slotCounted ch s)))
    ∧ (∀ v rest, x.side = .flowing → x.insertQueue = v :: rest →
      exec (.trunkCharacterReceived ch) s = .next (slotAnswered i ch { mark := false, data := v }
        ((slotCounted ch s).withBranch b
          { x with insertQueue := rest, insertReported := x.insertReported && !rest.isEmpty })))
    ∧ (x.side = .flowing → x.insertQueue = [] →
      exec (.trunkCharacterReceived ch) s = .next (slotAnswered i ch fill
        ((count ⟨10 + 4 * b.val, by omega⟩ (slotCounted ch s)).withBranch b
          { x with side := if x.config.startLevel = 0 then .flowing else .filling })))

/-- A DROP or TAP slot of an enabled branch (R52, R53, R54, R87, R88, R93): an unusable character is not pushed; a usable
one is stored, or taken at once by a transmitter that is IDLE over an empty queue; at a full queue it is discarded and
counted, and DROP_OVERRUN is posted where the flag is clear. DROP sends fill and TAP the character. -/
def Obligations.DropAndTapSlotsPush : Prop :=
  ∀ (ch : TrunkBits) (i : SlotIx) (b : BranchNo) (e : Entry) (s : State) (x : Branch), AtSlot i e s →
    e = .drop b ∨ e = .tap b → x = s.bu[b] → x.enabled = true →
    (usable (classify ch) = none → exec (.trunkCharacterReceived ch) s = .next
      (slotAnswered i ch { mark := false, data := s.me.node.fill } (slotCounted ch s)))
    ∧ (∀ v out, classify ch = .plain v → out = OutChar.mk false (if e = .tap b then v else s.me.node.fill) →
      (x.dropQueue.length < 32 → x.sending.isSome = true → exec (.trunkCharacterReceived ch) s = .next
        (slotAnswered i ch out (s.withBranch b { x with dropQueue := x.dropQueue ++ [v] })))
      ∧ (x.dropQueue = [] → x.sending = none → exec (.trunkCharacterReceived ch) s = .next
        (slotAnswered i ch out (s.withBranch b { x with sending := some v, dropReported := false })))
      ∧ (32 ≤ x.dropQueue.length → exec (.trunkCharacterReceived ch) s = .next
        (slotAnswered i ch out
          (if x.dropReported then count ⟨8 + 4 * b.val, by omega⟩ s
           else ((count ⟨8 + 4 * b.val, by omega⟩ s).withEq (postTo s.eq s.ct.cycle
              { kind := .dropOverrun, detail := [BitVec.ofNat 8 b.val] })).withBranch b
                { x with dropReported := true }))))

/-- An EXCHANGE slot makes both halves and each as in its own slot (R56): the drop side and the events are those a DROP
slot leaves, the insert side and the answer those an INSERT slot gives, and each count of the two is made. -/
def Obligations.ExchangeMakesBothHalves : Prop :=
  ∀ (ch : TrunkBits) (i : SlotIx) (b : BranchNo) (s : State) (withEntry : Entry → State),
    AtSlot i (.exchange b) s →
    (∀ e, withEntry e = s.withMu { s.mu with live := { s.mu.live with entries := s.mu.live.entries.set i e } }) →
    ∃ t d n, exec (.trunkCharacterReceived ch) s = .next t
      ∧ exec (.trunkCharacterReceived ch) (withEntry (.drop b)) = .next d
      ∧ exec (.trunkCharacterReceived ch) (withEntry (.insert b)) = .next n
      ∧ t.trunk = n.trunk ∧ t.ct = n.ct ∧ t.eq = d.eq ∧ t.mu = s.mu ∧ t.me = s.me ∧ t.sp = s.sp ∧ t.pu = s.pu
      ∧ t.bu[b] = { d.bu[b] with insertQueue := n.bu[b].insertQueue, side := n.bu[b].side
                                 insertReported := n.bu[b].insertReported }
      ∧ (∀ c : BranchNo, c ≠ b → t.bu[c] = s.bu[c])
      ∧ t.cb.live[cntDropDiscards b] = d.cb.live[cntDropDiscards b]
      ∧ t.cb.live[cntStarved b] = n.cb.live[cntStarved b]
      ∧ (∀ k : CounterIx, k ≠ cntDropDiscards b → k ≠ cntStarved b → t.cb.live[k] = d.cb.live[k])

/-- A TEST slot (R50, R151, R152, R155): the generator, while it is ON, supplies the byte that is sent and advances by
it; while it is OFF a usable character goes on unchanged and an unusable one as fill. A checker that is OFF takes no
account of the element; one in SEEK takes it as its seek rule gives; one that is LOCKED judges it against the byte its
register forms next, advances by that byte and keeps the result. (A judgement that brings a resync or ends a run is
stated with CHECKER_RESYNC and TEST_DONE.) -/
def Obligations.TestSlotGeneratesAndChecks : Prop :=
  ∀ (ch : TrunkBits) (i : SlotIx) (s : State) (p : PatternUnit) (el : Option Byte) (ans : PatternUnit → State),
    AtSlot i .test s → p = s.pu → el = usable (classify ch) →
    (∀ q, ans q = if p.config.generatorOn then
        slotAnswered i ch { mark := false, data := (nextByte p.config.word p.generator).1 }
          ((slotCounted ch s).withPu { q with generator := (nextByte p.config.word p.generator).2 })
      else slotAnswered i ch { mark := false, data := el.getD s.me.node.fill } ((slotCounted ch s).withPu q)) →
    (p.checker = .off → exec (.trunkCharacterReceived ch) s = .next (ans p))
    ∧ (p.checker = .seek → exec (.trunkCharacterReceived ch) s = .next (ans (seekElement p el)))
    ∧ (∀ (r : PatternRegister) (mm run : Bool), p.checker = .locked → p.checkerRegister = some r →
        (mm = true ↔ el ≠ some (nextByte p.config.word r).1) → (run = true ↔ p.run = .running) →
        windowMismatches (slideWindow p.window mm) ≠ p.config.threshold →
        ¬(run = true ∧ p.mode = .timed ∧ satInc p.checked = p.runLength.elements) →
        exec (.trunkCharacterReceived ch) s = .next (ans
          { p with checkerRegister := some (nextByte p.config.word r).2, window := slideWindow p.window mm
                   checked := if run = true ∧ p.checked ≠ 0xFFFF then p.checked + 1 else p.checked
                   errors := if run = true ∧ mm = true ∧ p.errors ≠ 0xFFFF then p.errors + 1 else p.errors }))

/-- A checker in SEEK that holds nothing locks on its own pattern: after two seed and two proof bytes of a PRBS from any
register that is not all zeros, after two bytes of COUNT, and after the two halves of the word value, high byte first or
low byte first; and its register is then the one that forms the bytes which follow (R149, R150, R153, R154). And each
element in SEEK does what its rule gives, those that do not lock among them: an unusable one clears what is held; seed
bytes load the register, but not with all zeros, where the second is kept; proof bytes advance it, and a failed proof
seeds afresh from them; COUNT takes a byte that is not the predicted one as its new seed; WORD judges it afresh, and a
byte that is neither half leaves it unaligned. The model's choice: what the register holds where nothing is predicted,
nothing (log entry 23); that of WORD holds the half that comes next (log entry 24); the progress is empty once LOCKED
(log entry 21). -/
def Obligations.CheckerLocksOnItsPattern : Prop :=
  (∀ (p : PatternUnit) (feed : List Byte → PatternUnit), p.checker = .seek → p.progress = .empty →
    (∀ bytes, feed bytes = bytes.foldl (fun q v => (checkElement q (some v)).1) p) →
    (p.config.checkerPattern = .prbs9 → ∀ r r1 r2 r3 r4 : BitVec 9, r ≠ 0 → r1 = lfsrByte 5 r → r2 = lfsrByte 5 r1 →
      r3 = lfsrByte 5 r2 → r4 = lfsrByte 5 r3 →
      (feed [r1.setWidth 8, r2.setWidth 8, r3.setWidth 8]).checker = .seek
      ∧ (feed [r1.setWidth 8, r2.setWidth 8, r3.setWidth 8, r4.setWidth 8]).checker = .locked
      ∧ (feed [r1.setWidth 8, r2.setWidth 8, r3.setWidth 8, r4.setWidth 8]).checkerRegister = some (.prbs9 r4))
    ∧ (p.config.checkerPattern = .prbs15 → ∀ r r1 r2 r3 r4 : BitVec 15, r ≠ 0 → r1 = lfsrByte 14 r →
      r2 = lfsrByte 14 r1 → r3 = lfsrByte 14 r2 → r4 = lfsrByte 14 r3 →
      (feed [r1.setWidth 8, r2.setWidth 8, r3.setWidth 8]).checker = .seek
      ∧ (feed [r1.setWidth 8, r2.setWidth 8, r3.setWidth 8, r4.setWidth 8]).checker = .locked
      ∧ (feed [r1.setWidth 8, r2.setWidth 8, r3.setWidth 8, r4.setWidth 8]).checkerRegister = some (.prbs15 r4))
    ∧ (p.config.checkerPattern = .count → ∀ v, (feed [v]).checker = .seek
      ∧ (feed [v, v + 1]).checker = .locked ∧ (feed [v, v + 1]).checkerRegister = some (.count (v + 2)))
    ∧ (p.config.checkerPattern = .word → ∀ hi lo : Byte, p.config.word = hi ++ lo →
        (feed [hi]).checker = .seek ∧ (feed [lo]).checker = .seek
        ∧ (feed [hi, lo]).checker = .locked ∧ (feed [hi, lo]).checkerRegister = some (.word true)
        ∧ (lo ≠ hi → (feed [lo, hi]).checker = .locked ∧ (feed [lo, hi]).checkerRegister = some (.word false))))
  ∧ (∀ (p : PatternUnit) (locks : PatternRegister → PatternUnit) (cleared : PatternUnit), p.checker = .seek →
    cleared = { p with checkerRegister := none, progress := .empty } →
    (∀ r, locks r = { p with checker := .locked, checkerRegister := some r, progress := .empty, window := [] }) →
    (∀ e, checkElement p e = (seekElement p e, []))
    ∧ seekElement p none = cleared
    -- PRBS: the first seed byte, the second, the first proof byte, the second
    ∧ (∀ v : Byte, p.config.checkerPattern = .prbs9 ∨ p.config.checkerPattern = .prbs15 →
      (p.progress = .empty → seekElement p (some v) = { p with progress := .seed v })
      ∧ (∀ b : Byte, p.progress = .seed b → p.config.checkerPattern = .prbs9 → seekElement p (some v) =
          if (b ++ v).extractLsb' 0 9 = 0 then { p with checkerRegister := none, progress := .seed v }
          else { p with checkerRegister := some (.prbs9 ((b ++ v).extractLsb' 0 9)), progress := .loaded })
      ∧ (∀ b : Byte, p.progress = .seed b → p.config.checkerPattern = .prbs15 → seekElement p (some v) =
          if (b ++ v).extractLsb' 0 15 = 0 then { p with checkerRegister := none, progress := .seed v }
          else { p with checkerRegister := some (.prbs15 ((b ++ v).extractLsb' 0 15)), progress := .loaded })
      ∧ (∀ r, p.progress = .loaded → p.checkerRegister = some r → seekElement p (some v) =
          { p with progress := .proof v (nextByte p.config.word r).1
                   checkerRegister := some (nextByte p.config.word r).2 })
      ∧ (∀ (r : PatternRegister) (first predicted : Byte), p.progress = .proof first predicted →
          p.checkerRegister = some r → seekElement p (some v) =
          if first = predicted ∧ v = (nextByte p.config.word r).1 then locks (nextByte p.config.word r).2
          else seekElement { p with progress := .seed first } (some v)))
    -- COUNT
    ∧ (∀ v : Byte, p.config.checkerPattern = .count →
      (p.progress = .empty → seekElement p (some v) =
          { p with checkerRegister := some (.count (v + 1)), progress := .loaded })
      ∧ (∀ w : Byte, p.progress = .loaded → p.checkerRegister = some (.count w) → seekElement p (some v) =
          if v = w then locks (.count (w + 1))
          else { p with checkerRegister := some (.count (v + 1)), progress := .loaded }))
    -- WORD
    ∧ (∀ (v hi lo : Byte) (judgedAfresh : PatternUnit), p.config.checkerPattern = .word → p.config.word = hi ++ lo →
      judgedAfresh = (if v = hi then { p with checkerRegister := some (.word false), progress := .loaded }
        else if v = lo then { p with checkerRegister := some (.word true), progress := .loaded } else cleared) →
      (p.progress = .empty → seekElement p (some v) = judgedAfresh)
      ∧ (∀ high : Bool, p.progress = .loaded → p.checkerRegister = some (.word high) → seekElement p (some v) =
          if v = (if high then hi else lo) then locks (.word (!high)) else judgedAfresh)))

/-- CHECKER_RESYNC (R155): a TEST element judged by a LOCKED checker, after which the mismatches among the last eight
results equal the threshold: a mismatch that brings them to it, or, where TEST_SET has lowered the threshold under the
number the window holds (R158), a match or a mismatch at which old mismatches have left the window. The element is
counted while RUNNING, then the checker seeks again with nothing held and the resync count advances. (Where the element
also completes a timed run, TEST_DONE says what is added. An element after which the number is another, above the
threshold too, is stated with the TEST slot.) -/
def Obligations.CheckerResyncs : Prop :=
  ∀ (ch : TrunkBits) (i : SlotIx) (s : State) (r : PatternRegister) (mm run : Bool), AtSlot i .test s →
    s.pu.checker = .locked → s.pu.checkerRegister = some r →
    (mm = true ↔ usable (classify ch) ≠ some (nextByte s.pu.config.word r).1) →
    windowMismatches (slideWindow s.pu.window mm) = s.pu.config.threshold →
    (s.pu.run = .running ↔ run = true) →
    ¬(run = true ∧ s.pu.mode = .timed ∧ satInc s.pu.checked = s.pu.runLength.elements) →
    exec (.checkerResync ch) s = .next
      (slotAnswered i ch
        { mark := false
          data := if s.pu.config.generatorOn then (nextByte s.pu.config.word s.pu.generator).1
                  else (usable (classify ch)).getD s.me.node.fill }
        ((slotCounted ch s).withPu
          { s.pu with
            checker := .seek, checkerRegister := none, progress := .empty, window := []
            generator := if s.pu.config.generatorOn then (nextByte s.pu.config.word s.pu.generator).2
                         else s.pu.generator
            checked := if run ∧ s.pu.checked ≠ 0xFFFF then s.pu.checked + 1 else s.pu.checked
            errors := if run ∧ mm ∧ s.pu.errors ≠ 0xFFFF then s.pu.errors + 1 else s.pu.errors
            resyncs := if run ∧ s.pu.resyncs ≠ 0xFF then s.pu.resyncs + 1 else s.pu.resyncs }))

/-- TEST_DONE (R50, R151, R155, R157): the element judged in LOCKED that brings the checked count of a TIMED run to its
length. It is answered, advances the generator and the checker, and is judged and counted like any other, with the
resync it may cause; then the run is DONE, and the event carries the counts as it leaves them. -/
def Obligations.TimedRunCompletes : Prop :=
  ∀ (ch : TrunkBits) (i : SlotIx) (s : State) (r : PatternRegister) (mm rs : Bool) (p done : PatternUnit),
    AtSlot i .test s → p = s.pu →
    p.checker = .locked → p.checkerRegister = some r → p.run = .running → p.mode = .timed →
    p.checked.toNat + 1 = (match p.runLength with | .len256 => 256 | .len4096 => 4096 | .len65535 => 65535) →
    (mm = true ↔ usable (classify ch) ≠ some (nextByte p.config.word r).1) →
    (rs = true ↔ windowMismatches (slideWindow p.window mm) = p.config.threshold) →
    done = { p with
      generator := if p.config.generatorOn then (nextByte p.config.word p.generator).2 else p.generator
      checker := if rs then .seek else .locked
      checkerRegister := if rs then none else some (nextByte p.config.word r).2
      progress := if rs then .empty else p.progress
      window := if rs then [] else slideWindow p.window mm
      run := .done
      checked := p.checked + 1
      errors := if mm = true ∧ p.errors ≠ 0xFFFF then p.errors + 1 else p.errors
      resyncs := if rs = true ∧ p.resyncs ≠ 0xFF then p.resyncs + 1 else p.resyncs } →
    exec (.testDone ch) s = .next
      ((slotAnswered i ch
          { mark := false
            data := if p.config.generatorOn then (nextByte p.config.word p.generator).1
                    else (usable (classify ch)).getD s.me.node.fill }
          ((slotCounted ch s).withPu done)).withEq
        (postTo s.eq s.ct.cycle
          { kind := .testDone
            detail := [done.checked.extractLsb' 8 8, done.checked.extractLsb' 0 8,
                       done.errors.extractLsb' 8 8, done.errors.extractLsb' 0 8, done.resyncs] }))

end Slots

/-! ### Events, frames and the gate -/

section Service
open Sys2Proof Sys2Proof.Machine

/-- A post to the Event Queue (R141): appended at up to 14 entries; at 15 lost, an OVERFLOW record of lost count 1 in its
place; at 16, where the newest is an OVERFLOW record, lost, and its lost count advances and stays at 255. -/
def Obligations.EventPosted : Prop :=
  ∀ (q : EventQueue) (cycle : Option Byte) (p : Post),
    (q.events.length ≤ 14 → postTo q cycle p =
      { events := q.events ++ [{ sequence := q.nextSequence, kind := p.kind, cycle := cycle, detail := p.detail }]
        nextSequence := q.nextSequence + 1 })
    ∧ (q.events.length = 15 → postTo q cycle p =
      { events := q.events ++ [{ sequence := q.nextSequence, kind := .overflow, cycle := cycle, detail := [1] }]
        nextSequence := q.nextSequence + 1 })
    ∧ (∀ (older : List EventRecord) (e : EventRecord) (lost : Byte), q.events = older ++ [e] → older.length = 15 →
        e.kind = .overflow → e.detail = [lost] → postTo q cycle p =
      { events := older ++ [{ e with detail := [if lost = 0xFF then 0xFF else lost + 1] }]
        nextSequence := q.nextSequence })

/-- The elements of the service channel that begin, end or abort a frame, or fall between frames, in a SERVICE slot of a
locked part (R105, R106, R111 to R113, R115, R116, R118, R119, R135).
FS begins a frame: the context is set afresh and frames seen counts one. A frame in progress is aborted first and counts
one frame abort; where it had executed a RESTART, RESTART is carried out at that instant. The FS itself goes on.
In IDLE a plain byte, FE and SIDLE go on, and a sync code, a stray mark or a damaged character is sent as SIDLE; nothing
else happens. In a frame that carries no executed RESTART, FE before END, SIDLE, a sync code, a stray mark or a damaged
character aborts it, and so does a plain byte in END; FE in END completes it. A request check that fails is counted at a
TAKER, which then holds a CHECK_FAIL reply; a DUPLICATE posts ADDRESS_CONFLICT and holds a DUPLICATE reply all the same.
The received check that stands through FS, and the place 0 after a frame's end, are the model's choice (log entry
11). -/
def Obligations.FsBeginsAFrame : Prop :=
  ∀ (s : State) (begun : FrameContext),
    begun = { s.sp with
      parser := .header, place := 0, role := .none, destination := none, code := none, claim := none
      controller := none, session := none, sequence := none, room := none, length := none, params := []
      runningCheck := 0xFFFF, executed := false, pendingReply := none } →
    (∀ (ch : TrunkBits) (i : SlotIx), AtSlot i .service s → classify ch = .fs →
      exec (.trunkCharacterReceived ch) s = .next (slotAnswered i ch { mark := true, data := 0x51 } (atFs s)))
    ∧ (s.sp.parser = .idle → atFs s = (count 4 s).withSp begun)
    ∧ (s.sp.parser ≠ .idle → s.sp.executed = false ∨ s.me.deferredRestart = false →
        atFs s = (count 4 (count 7 s)).withSp begun)
    ∧ (s.sp.parser ≠ .idle → s.sp.executed = true → s.me.deferredRestart = true →
        (atFs s).sp = begun ∧ (atFs s).ct = s.ct ∧ (atFs s).trunk = s.trunk
        ∧ (atFs s).me = { closed s.me with restartCause := .request, deferredRestart := false }
        ∧ (NoneBehind s → (atFs s).eq =
            { events := [{ sequence := 0, kind := .restarted
                           cycle := if s.ct.lock = .locked then s.ct.cycle else none
                           detail := [2, if s.mu.switch.state = .armed then 1 else 0] }]
              nextSequence := 1 }))
    ∧ (∀ (ch : TrunkBits) (i : SlotIx) (sidle : OutChar) (ended : FrameContext) (c : State), AtSlot i .service s →
        sidle = { mark := true, data := 0x00 } →
        ended = { s.sp with parser := .idle, place := 0, role := .none, executed := false, pendingReply := none } →
        c = (if classify ch = .damaged then count 0 s else s) →
        -- between frames
        (s.sp.parser = .idle →
          (∀ v, classify ch = .plain v →
            exec (.trunkCharacterReceived ch) s = .next (slotAnswered i ch { mark := false, data := v } s))
          ∧ (classify ch = .fe →
            exec (.trunkCharacterReceived ch) s = .next (slotAnswered i ch { mark := true, data := 0x5E } s))
          ∧ (classify ch ≠ .fs → classify ch ≠ .fe → (∀ v, classify ch ≠ .plain v) →
            exec (.trunkCharacterReceived ch) s = .next (slotAnswered i ch sidle c)))
        -- the end of a frame, with no RESTART to carry out
        ∧ (s.sp.parser ≠ .idle → s.sp.executed = false ∨ s.me.deferredRestart = false →
          (classify ch = .fe → exec (.trunkCharacterReceived ch) s = .next
            (slotAnswered i ch { mark := true, data := 0x5E }
              ((if s.sp.parser = .finish then s else count 7 s).withSp ended)))
          ∧ (classify ch ≠ .fs → classify ch ≠ .fe → (∀ v, classify ch ≠ .plain v) →
            exec (.trunkCharacterReceived ch) s = .next (slotAnswered i ch sidle ((count 7 c).withSp ended)))
          ∧ (∀ v, s.sp.parser = .finish → classify ch = .plain v → exec (.trunkCharacterReceived ch) s = .next
            (slotAnswered i ch { mark := false, data := v } ((count 7 s).withSp ended))))
        -- a request check that fails
        ∧ (∀ v, s.sp.parser = .reqCheck → s.sp.place = 1 → classify ch = .plain v →
            s.sp.runningCheck ≠ s.sp.checkHigh.getD 0 ++ v →
          (s.sp.role = .taker → exec (.trunkCharacterReceived ch) s = .next
            (slotAnswered i ch { mark := false, data := v } ((count 6 s).withSp
              { s.sp with parser := .turn, place := 0, checkLow := some v
                          pendingReply := some
                            { status := .checkFail, q := 0, data := List.replicate (roomOf s.sp) 0
                              check := crc16 (0x13 :: 0x00 :: List.replicate (roomOf s.sp) 0) } })))
          ∧ (s.sp.role = .duplicate → exec (.trunkCharacterReceived ch) s = .next
            (slotAnswered i ch { mark := false, data := v } ((s.withEq (postTo s.eq s.ct.cycle
                { kind := .addressConflict, detail := [s.sp.destination.getD 0] })).withSp
              { s.sp with parser := .turn, place := 0, checkLow := some v
                          pendingReply := some
                            { status := .duplicate, q := 0, data := List.replicate (roomOf s.sp) 0
                              check := crc16 (0x40 :: 0x00 :: List.replicate (roomOf s.sp) 0) } })))
          ∧ (s.sp.role = .bystander ∨ s.sp.role = .broadcast → exec (.trunkCharacterReceived ch) s = .next
            (slotAnswered i ch { mark := false, data := v } (s.withSp
              { s.sp with parser := .turn, place := 0, checkLow := some v })))))

/-- The request rows and the line agree (R102, R104, R107 to R113; log entry 2): the frame that a head sends, malformed
or not, its characters handed to the Service Port one by one from FS to the last request check character, leaves a
locked part exactly where the row's command leaves it, whatever frame was in progress before it. Each character goes on
unchanged, but for the Claim of a TAKER, which goes on as CLAIMED. -/
def Obligations.FrameOnTheLineIsTheRequest : Prop :=
  ∀ (code : Byte) (f : ReqFrame) (s : State) (outs : List TrunkChar → State → List OutChar) (claim : Byte),
    s.inReset = false → s.ct.lock = .locked → f.params.length ≤ 255 →
    (∀ t, outs [] t = []) →
    (∀ c cs t, outs (c :: cs) t = (serviceElement c [] t).1 :: outs cs (serviceElement c [] t).2) →
    claim = (if decideRole f.destination code f.claim s.me.address = .taker then 0xC1 else f.claim) →
    serviceElements (frameElements code f) s = requestStep code f s
    ∧ outs (frameElements code f) s = OutChar.mk true 0x51 ::
        ([f.destination, code, claim, f.controller, f.session, f.sequence, f.room, BitVec.ofNat 8 f.params.length]
          ++ f.params ++ [hiByte (requestCheck code f), loByte (requestCheck code f)]).map (OutChar.mk false)

/-- What a station writes into the frame it has taken (R107, R109, R114): the two turnaround characters go on unchanged,
then the reply section goes out in place of whatever arrives, Status first, then Q, the R data bytes and the reply
check, high byte first; and the parser then expects FE. A BYSTANDER and a BROADCAST station let the reply section pass
as it arrives. -/
def Obligations.ReplySectionIsWritten : Prop :=
  ∀ (s : State) (turn received : List Byte) (outs : List TrunkChar → State → List OutChar),
    s.sp.parser = .turn → s.sp.place = 0 → turn.length = 2 → received.length = roomOf s.sp + 4 →
    (∀ t, outs [] t = []) →
    (∀ c cs t, outs (c :: cs) t = (serviceElement c [] t).1 :: outs cs (serviceElement c [] t).2) →
    (∀ p : PendingReply, s.sp.role = .taker ∨ s.sp.role = .duplicate → s.sp.pendingReply = some p →
      p.data.length = roomOf s.sp →
      outs ((turn ++ received).map .plain) s
        = (turn ++ (p.status.code :: BitVec.ofNat 8 p.q :: p.data
            ++ [p.check.extractLsb' 8 8, p.check.extractLsb' 0 8])).map (OutChar.mk false))
    ∧ (s.sp.role = .bystander ∨ s.sp.role = .broadcast →
        outs ((turn ++ received).map .plain) s = (turn ++ received).map (OutChar.mk false))
    ∧ serviceElements ((turn ++ received).map .plain) s
        = s.withSp { s.sp with parser := .finish, place := 0 }

/-- The role that the claim byte gives, by destination, Code, Claim and address (R108). And a request frame in which the
part is no TAKER (R108, R112, R113), a Code that names no request among them: a BYSTANDER
follows the frame and executes nothing, and so does a BROADCAST station for any code but CAPTURE; a DUPLICATE executes
nothing, posts ADDRESS_CONFLICT and holds a DUPLICATE reply. A malformed frame is abandoned and counts one abort, and
nothing is executed (R107). That a request row is no step while the part is not LOCKED or a reset lasts is the model's
choice (log entry 2), and what the context holds of a malformed frame is too (log entry 11). -/
def Obligations.OthersExecuteNothing : Prop :=
  (∀ (destination code claim address : Byte) (own : Prop),
    (own ↔ destination = address ∧ 1 ≤ address.toNat ∧ address.toNat ≤ 239) →
    (decideRole destination code claim address = .broadcast ↔ destination = 0xFF)
    ∧ (decideRole destination code claim address = .taker ↔
        claim = 0x00 ∧ (own ∨ (destination = 0 ∧ code = 0x02 ∧ address = 0)))
    ∧ (decideRole destination code claim address = .duplicate ↔ own ∧ claim = 0xC1)
    ∧ decideRole destination code claim address ≠ .none)
  ∧ ∀ (i : Instr) (code : Byte) (f : ReqFrame) (s a : State),
    (∃ q : ReqName, i.request = some (q, f) ∧ i.inRow = true ∧ code = q.code)
      ∨ (i = .unknownRequest code f ∧ ∀ q : ReqName, q.code ≠ code) →
    a = atFs s →
    (s.inReset = true ∨ s.ct.lock ≠ .locked → exec i s = .next s)
    ∧ (s.inReset = false → s.ct.lock = .locked → 32 < f.room.toNat ∨ 32 < f.params.length →
        exec i s = .next ((count 7 a).withSp
          { a.sp with
            parser := .idle, place := 0, role := .none, executed := false, pendingReply := none
            destination := some f.destination, code := some code, claim := some f.claim
            controller := some f.controller, session := some f.session, sequence := some f.sequence
            room := if 32 < f.room.toNat then none else some f.room
            runningCheck := crc16 ([f.destination, code, f.controller, f.session, f.sequence]
              ++ (if 32 < f.room.toNat then [] else [f.room])) }))
    ∧ (MeetsFrame .bystander code f s → exec i s = .next (a.withSp (frameContext code f .bystander)))
    ∧ (MeetsFrame .broadcast code f s → code ≠ 0x38 →
        exec i s = .next (a.withSp (frameContext code f .broadcast)))
    ∧ (MeetsFrame .duplicate code f s → exec i s = .next
        ((a.withEq (postTo a.eq a.ct.cycle { kind := .addressConflict, detail := [f.destination] })).withSp
          { frameContext code f .duplicate with
            pendingReply := some
              { status := .duplicate, q := 0, data := List.replicate f.room.toNat 0
                check := crc16 (0x40 :: 0x00 :: List.replicate f.room.toNat 0) } }))

/-- Steps 2 to 4 of the gate for every sessioned request (R122, R124, R125): Session 0 is answered NO_SESSION and a tag
that is not open STALE_SESSION, and nothing but the reply and the frames-taken count follows; the open tag with the
last sequence, the cache valid, is answered from the cache and executes nothing. -/
def Obligations.SessionGuardsSessionedRequests : Prop :=
  ∀ (i : Instr) (q : ReqName) (f : ReqFrame) (s a : State), i.request = some (q, f) → i.inRow = true → a = atFs s →
    TakesFrame q.code f s → q.sessioned f.destination = true →
    (a.me.session.map Session.tag ≠ some f.session → f.session = 0 →
      exec i s = .next (answered q.code f .noSession [] a))
    ∧ (a.me.session.map Session.tag ≠ some f.session → f.session ≠ 0 →
      exec i s = .next (answered q.code f .staleSession [] a))
    ∧ (∀ r : Reply, a.me.session.map Session.tag = some f.session → f.session ≠ 0 →
        a.me.lastSequence = some f.sequence → a.me.cache = some r →
      exec i s = .next
        (answered q.code f (if f.room.toNat < r.data.length then .roomShort else r.status)
          (if f.room.toNat < r.data.length then [] else r.data) (a.withMe { a.me with inactivity := 0 })))

/-- Steps 1, 5 and 6 of the gate (R122, R123, R124): a Code that names no request is answered BAD_CODE; a Room smaller than
the request needs ROOM_SHORT; and parameters out of range BAD_PARAM. Nothing is executed; a sessioned request that
reaches step 5 or 6 is gated and cached all the same. The room each request needs, and the parameters that are in range
for it, are said byte by byte. (CAPTURE's two refusals are stated with its own meanings.) -/
def Obligations.GateRefuses : Prop :=
  (∀ (code : Byte) (f : ReqFrame) (s a : State), a = atFs s → TakesFrame code f s → (∀ q : ReqName, q.code ≠ code) →
    exec (.unknownRequest code f) s = .next (answered code f .badCode [] (a.withMe (heard f a.me))))
  ∧ (∀ (i : Instr) (q : ReqName) (f : ReqFrame) (s a : State) (after : Status → Management),
      i.request = some (q, f) → i.inRow = true → a = atFs s → q ≠ .capture → TakesFrame q.code f s →
      (q.sessioned f.destination = true → PassesSession f a.me) →
      (∀ st, after st = if q.sessioned f.destination then gated f st [] a.me else heard f a.me) →
      (f.room.toNat < roomNeeded q (frameRequest q.code f .taker) →
        exec i s = .next (answered q.code f .roomShort [] (a.withMe (after .roomShort))))
      ∧ (roomNeeded q (frameRequest q.code f .taker) ≤ f.room.toNat →
          paramsOk q (frameRequest q.code f .taker) = false →
        exec i s = .next (answered q.code f .badParam [] (a.withMe (after .badParam)))))
  ∧ (∀ (q : ReqName) (r : Request), roomNeeded q r =
      match q with
      | .identify => 10 | .openSession => 1 | .nodeGet => 8 | .mapCheck => 3 | .arm => 3 | .disarm => 5
      | .switchStatus => 13 | .branchGet => 13 | .poll => 1 | .testStatus => 18 | .capture => 1
      | .mapRead => 1 + r.params[2]?.elim 0 BitVec.toNat
      | .readCounters => 3 + 2 * r.params[1]?.elim 0 BitVec.toNat
      | .assign | .closeSession | .keep | .nodeSet | .restart | .mapWrite | .mapLength | .mapCopy | .branchSet => 0
      | .branchControl | .ack | .testSet | .testStart | .testStop => 0)
  ∧ (∀ (q : ReqName) (r : Request), paramsOk q r = true ↔
      match q with
      | .identify | .closeSession | .keep | .nodeGet | .restart | .mapCopy | .mapCheck => r.params = []
      | .disarm | .switchStatus | .poll | .testStop | .testStatus => r.params = []
      | .assign => ∃ v : Byte, r.params = [v] ∧ 1 ≤ v.toNat ∧ v.toNat ≤ 239
      | .openSession => r.params = [] ∧ r.session = 0 ∧ 1 ≤ r.controller.toNat ∧ r.controller.toNat ≤ 15
      | .nodeSet => ∃ fill gl tmo cc ml fb att clr : Byte, r.params = [fill, gl, tmo, cc, ml, fb, att, clr]
          ∧ gl.toNat ≤ 7 ∧ tmo ≠ 0 ∧ 2 ≤ cc.toNat ∧ cc.toNat ≤ 7 ∧ 1 ≤ ml.toNat ∧ ml.toNat ≤ 7 ∧ att.toNat ≤ 1
          ∧ clr.toNat ≤ 1
      | .mapRead => ∃ bank first n : Byte, r.params = [bank, first, n] ∧ bank.toNat ≤ 1 ∧ first.toNat ≤ 119
          ∧ 1 ≤ n.toNat ∧ n.toNat ≤ 30 ∧ first.toNat + n.toNat ≤ 120
      | .mapWrite => ∃ (first : Byte) (es : List Byte), r.params = first :: es ∧ 1 ≤ es.length ∧ es.length ≤ 30
          ∧ first.toNat ≤ 119 ∧ first.toNat + es.length ≤ 120
          ∧ ∀ v ∈ es, v = 0x00 ∨ v = 0x50 ∨ v = 0x60 ∨ (1 ≤ v.toNat / 16 ∧ v.toNat / 16 ≤ 4 ∧ v.toNat % 16 < 4)
      | .mapLength => ∃ v : Byte, r.params = [v] ∧ 4 ≤ v.toNat ∧ v.toNat ≤ 120
      | .arm => ∃ set c hi lo : Byte, r.params = [set, c, hi, lo] ∧ set.toNat ≤ 31
      | .branchGet => ∃ b : Byte, r.params = [b] ∧ b.toNat ≤ 3
      | .branchSet => ∃ b bits par stops dHi dLo pol lvl : Byte, r.params = [b, bits, par, stops, dHi, dLo, pol, lvl]
          ∧ b.toNat ≤ 3 ∧ (bits = 7 ∨ bits = 8) ∧ par.toNat ≤ 2 ∧ (stops = 1 ∨ stops = 2)
          ∧ 1 ≤ 256 * dHi.toNat + dLo.toNat ∧ 256 * dHi.toNat + dLo.toNat ≤ 4095 ∧ pol.toNat ≤ 1 ∧ lvl.toNat ≤ 31
      | .branchControl => ∃ b act : Byte, r.params = [b, act] ∧ b.toNat ≤ 3 ∧ 1 ≤ act.toNat ∧ act.toNat ≤ 5
      | .ack => ∃ v : Byte, r.params = [v]
      | .testSet => ∃ g gp k kp hi lo th : Byte, r.params = [g, gp, k, kp, hi, lo, th] ∧ g.toNat ≤ 1 ∧ gp.toNat ≤ 3
          ∧ k.toNat ≤ 1 ∧ kp.toNat ≤ 3 ∧ 2 ≤ th.toNat ∧ th.toNat ≤ 8
      | .testStart => ∃ m l : Byte, r.params = [m, l] ∧ m.toNat ≤ 1 ∧ l.toNat ≤ 2
      | .capture => ∃ m c : Byte, r.params = [m, c] ∧ m.toNat ≤ 1
      | .readCounters => ∃ first n : Byte, r.params = [first, n] ∧ first.toNat ≤ 23 ∧ 1 ≤ n.toNat ∧ n.toNat ≤ 24
          ∧ first.toNat + n.toNat ≤ 24)

/-- RESTART_CARRIED_OUT (R76, R96, R118, R135, R136, R138, R147, R162, R163, R164, R167).
At the FE, the long frame or the abort that ends the frame of an executed RESTART, in its SERVICE slot, every block takes
RESTART at once, and what a RESTART keeps is kept. At the FE no count of CT or SP falls at the same instant, and every
counter is 0. A branch character may complete at that instant: its count may then stand after the zeroing, and its post
behind RESTARTED (that it is the one which waits right behind is the model's choice, log entry 22).
At a loss of lock that aborts that frame, every block takes both in some order: an ARMED switch is abandoned for the one
or for the other, a GUARDING one is completed, LOCK_LOST stands behind RESTARTED or is emptied away, and a count of the
character stands or is zeroed. (CT's slots to go 0 and the aborted frame's place 0 are the model's choice, log entries
12 and 11.) -/
def Obligations.RestartIsCarriedOut : Prop :=
  (∀ (ch : TrunkBits) (i : SlotIx) (s : State) (r : SwitchRecord) (restarted : EventRecord), AtSlot i .service s →
    r = s.mu.switch →
    restarted = { sequence := 0, kind := .restarted, cycle := s.ct.cycle
                  detail := [2, if r.state = .armed then 1 else 0] } →
    s.sp.executed = true → s.me.deferredRestart = true →
    s.sp.parser = .finish ∨ (s.sp.parser ≠ .idle ∧ ∀ v, classify ch ≠ .plain v) →
    ∃ t, exec (.restartCarriedOut ch) s = .next t
      ∧ t.me = { closed s.me with restartCause := .request, deferredRestart := false }
      ∧ t.ct = { s.ct with slotsToGo := s.ct.slotsToGo - 1
                           position := if s.ct.slotsToGo ≤ 1 then .header0 else .slot (i + 1) }
      ∧ t.mu.pendingMap = s.mu.pendingMap ∧ t.mu.live.length = s.mu.live.length
      ∧ (r.state = .idle → t.mu = s.mu)
      ∧ (r.state = .armed → t.mu.live = s.mu.live
          ∧ t.mu.switch = { r with state := .idle, outcome := .abandoned, reason := .restart, outcomeSwitch := r.cycle
                                   outcomeCycle := r.lastHeader })
      ∧ (r.state = .guarding →
          (∀ k : SlotIx, t.mu.live.entries[k] =
            if s.mu.live.entries[k] = .guard then s.mu.pendingMap.entries[k] else s.mu.live.entries[k])
          ∧ t.mu.switch = { r with state := .idle, outcome := .done, reason := .none, outcomeSwitch := r.cycle
                                   outcomeCycle := r.lastHeader })
      ∧ (∀ b : BranchNo, t.bu[b] =
          { config := s.bu[b].config, enabled := false, dropQueue := [], insertQueue := [], sending := none
            receiver := .run, line := .waitHigh, side := .filling, dropReported := false, insertReported := false })
      ∧ t.pu = { s.pu with run := .idle, mode := .continuous, runLength := .len256, checked := 0, errors := 0
                           resyncs := 0, stopped := false }
      ∧ t.eq.events.head? = some restarted
      ∧ t.cb.capture = { number := 0, cycle := none, values := Vector.replicate 24 0 }
      ∧ t.cb.deferred = { armed := false, cycle := 0 }
      ∧ (NoneBehind s →
          t.eq = { events := [restarted], nextSequence := 1 }
          ∧ (∀ k : CounterIx, 8 ≤ k.val → t.cb.live[k] = 0)
          ∧ (s.sp.parser = .finish → classify ch = .fe → t.cb.live = Vector.replicate 24 0))
      ∧ (∀ (b : BranchNo) (bits : BranchBits) (rest : List Instr) (x : Branch) (v : Option Byte),
          s.pending = .branchCharacterComplete b bits :: rest →
          (∀ b' bits' rest', rest ≠ .branchCharacterComplete b' bits' :: rest') → x = s.bu[b] → x.enabled = true →
          x.line = .receiving → v = branchValue x.config bits →
          (∀ k : CounterIx, 8 ≤ k.val → t.cb.live[k] = 0 ∨ (t.cb.live[k] = 1
            ∧ ((v = none ∧ k.val = 11 + 4 * b.val)
              ∨ (v ≠ none ∧ (x.receiver = .hold ∨ 32 ≤ x.insertQueue.length) ∧ k.val = 9 + 4 * b.val))))
          ∧ (t.eq = { events := [restarted], nextSequence := 1 }
            ∨ (v = none ∧ x.receiver = .run ∧ x.config.policy = .hold
                ∧ t.eq = { events := [restarted, { sequence := 1, kind := .branchHold, cycle := s.ct.cycle
                                                   detail := [BitVec.ofNat 8 b.val] }]
                           nextSequence := 2 })
            ∨ (v ≠ none ∧ (x.receiver = .hold ∨ 32 ≤ x.insertQueue.length) ∧ x.insertReported = false
                ∧ t.eq = { events := [restarted, { sequence := 1, kind := .insertOverrun, cycle := s.ct.cycle
                                                   detail := [BitVec.ofNat 8 b.val] }]
                           nextSequence := 2 })))
      ∧ (s.sp.parser = .finish → classify ch = .fe →
          t.sp.parser = .idle ∧ t.trunk = { wait := .fall, out := some ch })
      ∧ (classify ch = .fs → t.sp.parser = .header)
      ∧ t.sp.executed = false ∧ t.sp.pendingReply = none ∧ t.inReset = false ∧ t.pending = s.pending)
  ∧ (∀ (ch : TrunkBits) (s : State) (r : SwitchRecord), trunkReady s → LosesLock ch s → r = s.mu.switch →
    s.sp.parser ≠ .idle → s.sp.executed = true → s.me.deferredRestart = true →
    ∃ t, exec (.restartCarriedOut ch) s = .next t ∧ exec (.lockLost ch) s = .next t
      ∧ t.me = { closed s.me with restartCause := .request, deferredRestart := false }
      ∧ t.ct = { s.ct with lock := .hunt, missCount := 0, coasting := false, position := .none, slotsToGo := 0
                           cycle := none }
      ∧ t.trunk = { wait := if ch.stop then .fall else .lineHigh
                    out := some (if classify ch = .damaged then formTrunk { mark := false, data := s.me.node.fill }
                                 else ch) }
      ∧ t.sp = { s.sp with parser := .idle, place := 0, role := .none, executed := false, pendingReply := none }
      ∧ (∀ b : BranchNo, t.bu[b] =
          { config := s.bu[b].config, enabled := false, dropQueue := [], insertQueue := [], sending := none
            receiver := .run, line := .waitHigh, side := .filling, dropReported := false, insertReported := false })
      ∧ t.pu = { (if s.pu.checker = .off then s.pu
                  else { s.pu with checker := .seek, checkerRegister := none, progress := .empty, window := [] }) with
                 run := .idle, mode := .continuous, runLength := .len256, checked := 0, errors := 0
                 resyncs := 0, stopped := false }
      ∧ t.cb.capture = { number := 0, cycle := none, values := Vector.replicate 24 0 }
      ∧ t.cb.deferred = { armed := false, cycle := 0 }
      ∧ t.mu.pendingMap = s.mu.pendingMap ∧ t.mu.live.length = s.mu.live.length
      ∧ (r.state = .idle → t.mu = s.mu)
      ∧ (r.state = .armed → t.mu.live = s.mu.live
          ∧ ∃ why, (why = .lockLost ∨ why = .restart) ∧ t.mu.switch =
              { r with state := .idle, outcome := .abandoned, reason := why, outcomeSwitch := r.cycle
                       outcomeCycle := r.lastHeader })
      ∧ (r.state = .guarding →
          (∀ k : SlotIx, t.mu.live.entries[k] =
            if s.mu.live.entries[k] = .guard then s.mu.pendingMap.entries[k] else s.mu.live.entries[k])
          ∧ ∃ why, (why = .lockLost ∨ why = .none) ∧ t.mu.switch =
              { r with state := .idle, outcome := .done, reason := why, outcomeSwitch := r.cycle
                       outcomeCycle := r.lastHeader })
      ∧ (NoneBehind s →
          (∃ (cycle : Option Byte) (restarted lost : EventRecord), (cycle = s.ct.cycle ∨ cycle = none)
            ∧ restarted = { sequence := 0, kind := .restarted, cycle := cycle
                            detail := [2, if r.state = .armed ∧ t.mu.switch.reason = .restart then 1 else 0] }
            ∧ lost = { sequence := 1, kind := .lockLost, cycle := none, detail := [s.ct.cycle.getD 0] }
            ∧ (t.eq = { events := [restarted, lost], nextSequence := 2 }
              ∨ (cycle = none ∧ t.eq = { events := [restarted], nextSequence := 1 })))
          ∧ (∀ k : CounterIx, t.cb.live[k] = 0
              ∨ (t.cb.live[k] = 1
                ∧ (k.val = 1 ∨ k.val = 2 ∨ k.val = 7 ∨ (k.val = 0 ∧ classify ch = .damaged)))))
      ∧ t.inReset = s.inReset ∧ t.pending = s.pending)

end Service

/-! ### Requests -/

section Requests
open Sys2Proof Sys2Proof.Machine

/-- IDENTIFY (R132) and NODE_GET: the ten bytes of the one and the eight of the other, read together; nothing but
the inactivity count of the open session changes beside the reply. -/
def Obligations.IdentifyAndNodeGetReply : Prop :=
  ∀ (f : ReqFrame) (s a : State), a = atFs s → f.params = [] →
    (TakesFrame 0x01 f s → 10 ≤ f.room.toNat → exec (.identify f) s = .next (answered 0x01 f .ok
      [0x41, 0x01, a.me.address, if a.ct.coasting then 0x03 else 0x02,
       if a.me.session.isSome then 0x01 else 0x00,
       match a.me.session with | some k => k.owner | none => 0x00,
       match a.me.restartCause with | .power => 0x00 | .pin => 0x01 | .request => 0x02,
       BitVec.ofNat 8 a.mu.live.length,
       match a.mu.switch.state with | .idle => 0x00 | .armed => 0x01 | .guarding => 0x02,
       BitVec.ofNat 8 a.eq.events.length]
      (a.withMe (heard f a.me))))
    ∧ (TakesFrame 0x06 f s → 8 ≤ f.room.toNat → exec (.nodeGet f) s = .next (answered 0x06 f .ok
      [a.me.node.fill, a.me.node.guardLength, a.me.node.sessionTimeout, a.me.node.confirmCount,
       a.me.node.missLimit, a.me.node.fallbackThreshold, if a.me.node.attention then 0x01 else 0x00,
       if a.me.node.clearOnCapture then 0x01 else 0x00]
      (a.withMe (heard f a.me))))

/-- ASSIGN (R131): the address becomes the byte carried; to destination 0 the request is sessionless, to the part's own
address it is sessioned and the session goes on. -/
def Obligations.AssignSetsTheAddress : Prop :=
  ∀ (f : ReqFrame) (s a : State) (v : Byte), a = atFs s → TakesFrame 0x02 f s → f.params = [v] → 1 ≤ v.toNat →
    v.toNat ≤ 239 →
    (f.destination = 0 → exec (.assign f) s = .next
      (answered 0x02 f .ok [] (a.withMe { heard f a.me with address := v })))
    ∧ (f.destination ≠ 0 → PassesSession f a.me → exec (.assign f) s = .next
      (answered 0x02 f .ok [] (a.withMe { gated f .ok [] a.me with address := v })))

/-- OPEN (R126): a CLOSED session, or one its owner holds, is opened with the next tag, from 255 to 1; another controller
is answered HELD and changes nothing. -/
def Obligations.OpenIssuesATag : Prop :=
  ∀ (f : ReqFrame) (s a : State) (tag : Byte), a = atFs s → TakesFrame 0x03 f s → f.params = [] → 1 ≤ f.room.toNat →
    f.session = 0 → 1 ≤ f.controller.toNat → f.controller.toNat ≤ 15 →
    tag = (if a.me.tagCounter = 0xFF then 0x01 else a.me.tagCounter + 1) →
    ((∀ k, a.me.session = some k → k.owner = f.controller) → exec (.openSession f) s = .next
      (answered 0x03 f .ok [tag] (a.withMe
        { a.me with session := some { owner := f.controller, tag := tag }, inactivity := 0, lastSequence := none
                    cache := none, tagCounter := tag })))
    ∧ (∀ k, a.me.session = some k → k.owner ≠ f.controller → k.tag ≠ 0 → exec (.openSession f) s = .next
      (answered 0x03 f .held [k.owner] a))

/-- CLOSE and KEEP (R124, R127, R128): CLOSE closes the session and caches nothing; KEEP does nothing but what every gated
request does. -/
def Obligations.CloseAndKeepTheSession : Prop :=
  ∀ (f : ReqFrame) (s a : State), a = atFs s → f.params = [] → PassesSession f a.me →
    (TakesFrame 0x04 f s → exec (.closeSession f) s = .next (answered 0x04 f .ok [] (a.withMe
      { a.me with session := none, inactivity := 0, lastSequence := none, cache := none })))
    ∧ (TakesFrame 0x05 f s → exec (.keep f) s = .next (answered 0x05 f .ok [] (a.withMe (gated f .ok [] a.me))))

/-- NODE_SET and RESTART as they are executed (R134, R135): the one replaces the whole record of settings, the other sets
the deferred-restart flag and nothing else. -/
def Obligations.NodeSetAndRestartExecute : Prop :=
  ∀ (f : ReqFrame) (s a : State), a = atFs s → PassesSession f a.me →
    (∀ n : NodeSettings, TakesFrame 0x07 f s →
      f.params = [n.fill, n.guardLength, n.sessionTimeout, n.confirmCount, n.missLimit, n.fallbackThreshold,
        if n.attention then 0x01 else 0x00, if n.clearOnCapture then 0x01 else 0x00] →
      n.guardLength.toNat ≤ 7 → n.sessionTimeout ≠ 0 → 2 ≤ n.confirmCount.toNat → n.confirmCount.toNat ≤ 7 →
      1 ≤ n.missLimit.toNat → n.missLimit.toNat ≤ 7 →
      exec (.nodeSet f) s = .next (answered 0x07 f .ok [] (a.withMe { gated f .ok [] a.me with node := n })))
    ∧ (TakesFrame 0x08 f s → f.params = [] → exec (.restart f) s = .next
      (answered 0x08 f .ok [] (a.withMe { gated f .ok [] a.me with deferredRestart := true })))

/-- MAP_READ and MAP_CHECK (R40, R44): the length and the entry bytes of a bank, and the length of Pending with the CRC-16 of
its length and its entries below it; each is refused BAD_PARAM for a parameter length or a byte out of range. -/
def Obligations.MapReadAndCheckReply : Prop :=
  ∀ (f : ReqFrame) (s a : State), a = atFs s →
    (∀ (pend : Bool) (first n : Byte) (m : SlotMap), TakesFrame 0x10 f s →
      f.params = [if pend then 0x01 else 0x00, first, n] → 1 ≤ n.toNat → n.toNat ≤ 30 → first.toNat ≤ 119 →
      first.toNat + n.toNat ≤ 120 → n.toNat + 1 ≤ f.room.toNat → m = (if pend then a.mu.pendingMap else a.mu.live) →
      exec (.mapRead f) s = .next (answered 0x10 f .ok
        (BitVec.ofNat 8 m.length :: ((m.entries.toList.drop first.toNat).take n.toNat).map fun e =>
          BitVec.ofNat 8 (16 * e.actionCode + (e.branch.elim 0 Fin.val)))
        (a.withMe (heard f a.me))))
    ∧ (∀ (m : SlotMap) (check : Word16), TakesFrame 0x14 f s → f.params = [] → 3 ≤ f.room.toNat → m = a.mu.pendingMap →
      check = crc16 (BitVec.ofNat 8 m.length :: (m.entries.toList.take m.length).map Entry.byte) →
      exec (.mapCheck f) s = .next (answered 0x14 f .ok
        [BitVec.ofNat 8 m.length, check.extractLsb' 8 8, check.extractLsb' 0 8] (a.withMe (heard f a.me))))
    ∧ (TakesFrame 0x10 f s → 1 + f.params[2]?.elim 0 BitVec.toNat ≤ f.room.toNat →
      (∀ bank first n : Byte, f.params = [bank, first, n] → ¬(bank.toNat ≤ 1 ∧ first.toNat ≤ 119 ∧ 1 ≤ n.toNat
        ∧ n.toNat ≤ 30 ∧ first.toNat + n.toNat ≤ 120)) →
      exec (.mapRead f) s = .next (answered 0x10 f .badParam [] (a.withMe (heard f a.me))))
    ∧ (TakesFrame 0x14 f s → 3 ≤ f.room.toNat → f.params ≠ [] →
      exec (.mapCheck f) s = .next (answered 0x14 f .badParam [] (a.withMe (heard f a.me))))

/-- MAP_WRITE (R32, R37, R41): the bytes that are valid are those of the nineteen storable entries, and each names the
entry whose byte it is; the request is refused LOCKED while the switch is ARMED or GUARDING; otherwise the entries the bytes name are
stored from the first index on, and no other entry, nor the length, nor Live, changes. -/
def Obligations.MapWriteStoresEntries : Prop :=
  (∀ (v : Byte) (e : Entry), entryOfByte v = some e ↔
    e ≠ .guard ∧ v = BitVec.ofNat 8 (16 * e.actionCode + (e.branch.elim 0 Fin.val)))
  ∧ (∀ v : Byte, (entryOfByte v).isSome = true ↔
      v = 0x00 ∨ v = 0x50 ∨ v = 0x60 ∨ (1 ≤ v.toNat / 16 ∧ v.toNat / 16 ≤ 4 ∧ v.toNat % 16 < 4))
  ∧ ∀ (f : ReqFrame) (s a : State) (first : Byte) (es : List Entry), a = atFs s → TakesFrame 0x11 f s →
    PassesSession f a.me → f.params = first :: es.map Entry.byte → (∀ e ∈ es, e ≠ .guard) → 1 ≤ es.length →
    es.length ≤ 30 → first.toNat ≤ 119 → first.toNat + es.length ≤ 120 →
    (a.mu.switch.state ≠ .idle → exec (.mapWrite f) s = .next
      (answered 0x11 f .locked [] (a.withMe (gated f .locked [] a.me))))
    ∧ (a.mu.switch.state = .idle → exec (.mapWrite f) s = .next
      (answered 0x11 f .ok [] ((a.withMe (gated f .ok [] a.me)).withMu
        { a.mu with pendingMap := { a.mu.pendingMap with
            entries := Vector.ofFn fun i : SlotIx =>
              if first.toNat ≤ i.val then es.getD (i.val - first.toNat) a.mu.pendingMap.entries[i]
              else a.mu.pendingMap.entries[i] } })))

/-- MAP_LENGTH and MAP_COPY (R42, R43): refused BAD_PARAM for a parameter length, or a value, out of range; refused
LOCKED while the switch is ARMED or GUARDING; otherwise the one sets the Pending length and no entry, and the other makes
Pending equal to Live at all 120 indices and in its length. -/
def Obligations.MapLengthAndCopyWritePending : Prop :=
  ∀ (f : ReqFrame) (s a : State), a = atFs s → PassesSession f a.me →
    (∀ v : Byte, TakesFrame 0x12 f s → f.params = [v] → 4 ≤ v.toNat → v.toNat ≤ 120 →
      (a.mu.switch.state ≠ .idle → exec (.mapLength f) s = .next
        (answered 0x12 f .locked [] (a.withMe (gated f .locked [] a.me))))
      ∧ (a.mu.switch.state = .idle → exec (.mapLength f) s = .next
        (answered 0x12 f .ok [] ((a.withMe (gated f .ok [] a.me)).withMu
          { a.mu with pendingMap := { a.mu.pendingMap with length := v.toNat } }))))
    ∧ (TakesFrame 0x12 f s → (∀ v : Byte, f.params = [v] → ¬(4 ≤ v.toNat ∧ v.toNat ≤ 120)) →
        exec (.mapLength f) s = .next (answered 0x12 f .badParam [] (a.withMe (gated f .badParam [] a.me))))
    ∧ (TakesFrame 0x13 f s → f.params ≠ [] →
        exec (.mapCopy f) s = .next (answered 0x13 f .badParam [] (a.withMe (gated f .badParam [] a.me))))
    ∧ (TakesFrame 0x13 f s → f.params = [] →
      (a.mu.switch.state ≠ .idle → exec (.mapCopy f) s = .next
        (answered 0x13 f .locked [] (a.withMe (gated f .locked [] a.me))))
      ∧ (a.mu.switch.state = .idle → exec (.mapCopy f) s = .next
        (answered 0x13 f .ok [] ((a.withMe (gated f .ok [] a.me)).withMu
          { a.mu with pendingMap := a.mu.live }))))

/-- ARM (R64, R65, R66, R67, R68): the seven checks in order, the first that fails giving the reply and changing nothing
of the switch; an accepted ARM fills the record from C to the arming tag and answers the three counts: the moving
indices whose entries differ, the tested indices that do not move and differ, and the indices that enter the guard. -/
def Obligations.ArmChecksAndArms : Prop :=
  ∀ (f : ReqFrame) (s a : State) (set : BitVec 5) (c hi lo now g : Byte) (check : Word16) (m : MapUnit)
    (refused : Status → List Byte → State) (inSet : Option Nat → Prop) (tst mv gd differ : SlotIx → Bool)
    (L' moved held guarded : Nat), a = atFs s → TakesFrame 0x18 f s → PassesSession f a.me →
    f.params = [set.setWidth 8, c, hi, lo] → 3 ≤ f.room.toNat → a.ct.cycle = some now → m = a.mu →
    g = a.me.node.guardLength →
    check = crc16 (BitVec.ofNat 8 m.pendingMap.length
      :: (m.pendingMap.entries.toList.take m.pendingMap.length).map Entry.byte) →
    (∀ st data, refused st data = answered 0x18 f st data (a.withMe (gated f st data a.me))) →
    (∀ o, inSet o ↔ ∃ k, o = some k ∧ set.getLsbD k = true) →
    L' = (if set = 0x1F then m.pendingMap.length else m.live.length) →
    (∀ i, tst i = true ↔ i.val < max m.live.length m.pendingMap.length) →
    (∀ i, differ i = true ↔ m.live.entries[i] ≠ m.pendingMap.entries[i]) →
    (∀ i, mv i = true ↔ tst i = true ∧ inSet (if m.live.length ≤ i.val then some 4 else m.live.entries[i].group)
      ∧ inSet m.pendingMap.entries[i].group) →
    (∀ i, gd i = true ↔ mv i = true ∧ i.val < L' ∧ g ≠ 0
      ∧ ∃ b, m.pendingMap.entries[i].branch = some b ∧ m.live.entries[i].branch ≠ some b) →
    moved = (List.finRange 120).countP (fun i => mv i && differ i) →
    held = (List.finRange 120).countP (fun i => tst i && !mv i && differ i) →
    guarded = (List.finRange 120).countP gd →
    exec (.arm f) s = .next
      (if m.switch.state ≠ .idle then refused .busy []
       else if a.ct.coasting = true then refused .notLocked []
       else if set = 0 then refused .badParam []
       else if ¬(2 ≤ (c - now).toNat ∧ (c - now).toNat ≤ 127) then refused .badCycle []
       else if m.pendingMap.length ≠ m.live.length ∧ set ≠ 0x1F then refused .lengthNeedsFull []
       else if hi ++ lo ≠ check then
         refused .checkMismatch [BitVec.ofNat 8 m.pendingMap.length, check.extractLsb' 8 8, check.extractLsb' 0 8]
       else if ¬∃ i : SlotIx, i.val < L' ∧ (if mv i then m.pendingMap.entries[i] else m.live.entries[i]) = .service then
         refused .noService []
       else answered 0x18 f .accepted [BitVec.ofNat 8 moved, BitVec.ofNat 8 held, BitVec.ofNat 8 guarded]
         ((a.withMe (gated f .accepted [BitVec.ofNat 8 moved, BitVec.ofNat 8 held, BitVec.ofNat 8 guarded] a.me)).withMu
           { m with switch := { m.switch with
               state := .armed, cycle := c, groups := set, guardLength := g, guardEnd := c + g
               moved := moved, held := held, guarded := guarded, armingTag := f.session } }))

/-- DISARM (R78): an ARMED switch is cancelled, with Live unchanged and no event; otherwise nothing changes and the reply
is TOO_LATE. The five data bytes describe the record after the action. A Room below 5 is answered ROOM_SHORT, and
parameters BAD_PARAM. -/
def Obligations.DisarmCancels : Prop :=
  ∀ (f : ReqFrame) (s a : State) (r r' : SwitchRecord) (st : Status) (data : List Byte), a = atFs s →
    TakesFrame 0x19 f s → PassesSession f a.me → r = a.mu.switch →
    r' = (if r.state = .armed then
            { r with state := .idle, outcome := .cancelled, reason := .none, outcomeSwitch := r.cycle
                     outcomeCycle := r.lastHeader }
          else r) →
    st = (if r.state = .armed then .ok else .tooLate) →
    data = [match r'.state with | .idle => 0x00 | .armed => 0x01 | .guarding => 0x02,
            match r'.outcome with | .none => 0x00 | .done => 0x01 | .cancelled => 0x02 | .abandoned => 0x03,
            match r'.reason with | .none => 0x00 | .cycleJump => 0x01 | .lockLost => 0x02 | .restart => 0x04,
            r'.outcomeSwitch, if r'.outcome = .none then 0x00 else r'.outcomeCycle.getD 0] →
    (f.params = [] → 5 ≤ f.room.toNat → exec (.disarm f) s = .next
      (answered 0x19 f st data ((a.withMe (gated f st data a.me)).withMu { a.mu with switch := r' })))
    ∧ (f.room.toNat < 5 → exec (.disarm f) s = .next
      (answered 0x19 f .roomShort [] (a.withMe (gated f .roomShort [] a.me))))
    ∧ (5 ≤ f.room.toNat → f.params ≠ [] → exec (.disarm f) s = .next
      (answered 0x19 f .badParam [] (a.withMe (gated f .badParam [] a.me))))

/-- SWITCH_STATUS (R81) and TEST_STATUS: the thirteen bytes of the switch record and the eighteen of the run record,
the checker and the pattern configuration, each read together; a Room too small is answered ROOM_SHORT, and parameters
BAD_PARAM. -/
def Obligations.SwitchAndTestStatusReply : Prop :=
  ∀ (f : ReqFrame) (s a : State), a = atFs s →
    (∀ r : SwitchRecord, TakesFrame 0x1A f s → f.params = [] → 13 ≤ f.room.toNat → r = a.mu.switch →
      exec (.switchStatus f) s = .next (answered 0x1A f .ok
        [match r.state with | .idle => 0x00 | .armed => 0x01 | .guarding => 0x02,
         r.cycle, r.groups.setWidth 8, r.guardLength, r.guardEnd, BitVec.ofNat 8 r.moved, BitVec.ofNat 8 r.held,
         BitVec.ofNat 8 r.guarded, r.armingTag,
         match r.outcome with | .none => 0x00 | .done => 0x01 | .cancelled => 0x02 | .abandoned => 0x03,
         match r.reason with | .none => 0x00 | .cycleJump => 0x01 | .lockLost => 0x02 | .restart => 0x04,
         r.outcomeSwitch, if r.outcome = .none then 0x00 else r.outcomeCycle.getD 0]
        (a.withMe (heard f a.me))))
    ∧ (TakesFrame 0x1A f s →
      (f.room.toNat < 13 → exec (.switchStatus f) s = .next
        (answered 0x1A f .roomShort [] (a.withMe (heard f a.me))))
      ∧ (13 ≤ f.room.toNat → f.params ≠ [] → exec (.switchStatus f) s = .next
        (answered 0x1A f .badParam [] (a.withMe (heard f a.me)))))
    ∧ (TakesFrame 0x33 f s →
      (f.room.toNat < 18 → exec (.testStatus f) s = .next
        (answered 0x33 f .roomShort [] (a.withMe (heard f a.me))))
      ∧ (18 ≤ f.room.toNat → f.params ≠ [] → exec (.testStatus f) s = .next
        (answered 0x33 f .badParam [] (a.withMe (heard f a.me)))))
    ∧ (∀ p : PatternUnit, TakesFrame 0x33 f s → f.params = [] → 18 ≤ f.room.toNat → p = a.pu →
      exec (.testStatus f) s = .next (answered 0x33 f .ok
        [match p.run with | .idle => 0x00 | .running => 0x01 | .done => 0x02,
         match p.mode with | .continuous => 0x00 | .timed => 0x01,
         match p.runLength with | .len256 => 0x00 | .len4096 => 0x01 | .len65535 => 0x02,
         p.checked.extractLsb' 8 8, p.checked.extractLsb' 0 8, p.errors.extractLsb' 8 8, p.errors.extractLsb' 0 8,
         p.resyncs, if p.stopped then 0x01 else 0x00,
         match p.checker with | .off => 0x00 | .seek => 0x01 | .locked => 0x02,
         BitVec.ofNat 8 (p.window.count true),
         if p.config.generatorOn then 0x01 else 0x00,
         match p.config.generatorPattern with | .prbs9 => 0x00 | .prbs15 => 0x01 | .count => 0x02 | .word => 0x03,
         if p.config.checkerOn then 0x01 else 0x00,
         match p.config.checkerPattern with | .prbs9 => 0x00 | .prbs15 => 0x01 | .count => 0x02 | .word => 0x03,
         p.config.word.extractLsb' 8 8, p.config.word.extractLsb' 0 8, BitVec.ofNat 8 p.config.threshold]
        (a.withMe (heard f a.me))))

/-- BRANCH_GET and BRANCH_SET (R99, R100): the thirteen bytes of a branch; and the record replaced whole while the branch
is DISABLED, refused BRANCH_ENABLED while it is enabled, with nothing else of the branch changed. Parameters that name
no branch or no valid record are answered BAD_PARAM, and a Room below 13 for BRANCH_GET ROOM_SHORT. -/
def Obligations.BranchRecordIsReadAndSet : Prop :=
  ∀ (f : ReqFrame) (s a : State) (b : BranchNo) (x : Branch) (record : BranchConfig → List Byte), a = atFs s →
    x = a.bu[b] →
    (∀ c, record c =
      [if c.sevenBits then 0x07 else 0x08,
       match c.parity with | .none => 0x00 | .even => 0x01 | .odd => 0x02,
       if c.twoStops then 0x02 else 0x01,
       BitVec.ofNat 8 (c.divisor.toNat / 256), BitVec.ofNat 8 (c.divisor.toNat % 256),
       match c.policy with | .discard => 0x00 | .hold => 0x01, BitVec.ofNat 8 c.startLevel]) →
    (TakesFrame 0x20 f s → f.params = [BitVec.ofNat 8 b.val] → 13 ≤ f.room.toNat →
      exec (.branchGet f) s = .next (answered 0x20 f .ok
        (record x.config ++
          [if x.enabled then 0x01 else 0x00,
           match x.receiver with | .run => 0x00 | .hold => 0x01,
           match x.side with | .filling => 0x00 | .flowing => 0x01,
           BitVec.ofNat 8 x.dropQueue.length, BitVec.ofNat 8 x.insertQueue.length,
           BitVec.ofNat 8 (x.dropReported.toNat + 2 * x.insertReported.toNat)])
        (a.withMe (heard f a.me))))
    ∧ (∀ c : BranchConfig, TakesFrame 0x21 f s → PassesSession f a.me → f.params = BitVec.ofNat 8 b.val :: record c →
        c.divisor ≠ 0 → c.startLevel ≤ 31 →
      (x.enabled = true → exec (.branchSet f) s = .next
        (answered 0x21 f .branchEnabled [] (a.withMe (gated f .branchEnabled [] a.me))))
      ∧ (x.enabled = false → exec (.branchSet f) s = .next
        (answered 0x21 f .ok [] ((a.withMe (gated f .ok [] a.me)).withBranch b { x with config := c }))))
    ∧ (TakesFrame 0x20 f s →
      (f.room.toNat < 13 → exec (.branchGet f) s = .next
        (answered 0x20 f .roomShort [] (a.withMe (heard f a.me))))
      ∧ (13 ≤ f.room.toNat → (∀ v : Byte, f.params = [v] → 3 < v.toNat) → exec (.branchGet f) s = .next
        (answered 0x20 f .badParam [] (a.withMe (heard f a.me)))))
    ∧ (TakesFrame 0x21 f s → PassesSession f a.me →
        (∀ (k : BranchNo) (c : BranchConfig), c.divisor ≠ 0 → c.startLevel ≤ 31 →
          f.params ≠ BitVec.ofNat 8 k.val :: record c) →
      exec (.branchSet f) s = .next (answered 0x21 f .badParam [] (a.withMe (gated f .badParam [] a.me))))

/-- The five actions of BRANCH_CONTROL: ENABLE, DISABLE, CLEAR_HOLD and the flushes of R98 each leave their branch as their
rule gives, answer OK whatever state the branch is in, and touch no other branch and no counter but frames taken. -/
def Obligations.BranchControlActs : Prop :=
  ∀ (f : ReqFrame) (s a : State) (b : BranchNo) (x : Branch) (done : Branch → State) (level0 : InsertSide), a = atFs s →
    TakesFrame 0x22 f s → PassesSession f a.me → x = a.bu[b] →
    (∀ y, done y = answered 0x22 f .ok [] ((a.withMe (gated f .ok [] a.me)).withBranch b y)) →
    level0 = (if x.config.startLevel = 0 then .flowing else .filling) →
    (f.params = [BitVec.ofNat 8 b.val, 0x01] → exec (.enable f) s = .next (done
      (if x.enabled then x else
        { config := x.config, enabled := true, dropQueue := [], insertQueue := [], sending := none, receiver := .run
          line := .waitHigh, side := level0, dropReported := false, insertReported := false })))
    ∧ (f.params = [BitVec.ofNat 8 b.val, 0x02] → exec (.disable f) s = .next (done
      (if x.enabled then
        { config := x.config, enabled := false, dropQueue := [], insertQueue := [], sending := none, receiver := .run
          line := .waitHigh, side := .filling, dropReported := false, insertReported := false } else x)))
    ∧ (f.params = [BitVec.ofNat 8 b.val, 0x03] → exec (.clearHold f) s = .next (done
      (if x.enabled then { x with receiver := .run } else x)))
    ∧ (f.params = [BitVec.ofNat 8 b.val, 0x04] → exec (.flushDrop f) s = .next (done
      { x with dropQueue := [], dropReported := false }))
    ∧ (f.params = [BitVec.ofNat 8 b.val, 0x05] → exec (.flushInsert f) s = .next (done
      { x with insertQueue := [], insertReported := false, side := if x.enabled then level0 else .filling }))

/-- POLL and READ_COUNTERS (R142, R168): the number of records and then the oldest of them, each whole, for as long as the
next one fits in the Room; and the capture record's number, cycle and values. Neither changes what it reads. A Room too
small is answered ROOM_SHORT, and parameters out of range BAD_PARAM. -/
def Obligations.PollAndReadCountersReply : Prop :=
  ∀ (f : ReqFrame) (s a : State), a = atFs s →
    (∀ bytes : EventRecord → List Byte, TakesFrame 0x28 f s → f.params = [] → 1 ≤ f.room.toNat →
      (∀ e, bytes e = [e.sequence, e.kind.code,
        BitVec.ofNat 8 ((if e.cycle.isSome then 0x80 else 0) + e.detail.length), e.cycle.getD 0] ++ e.detail) →
      ∃ k, k ≤ a.eq.events.length
        ∧ 1 + ((a.eq.events.take k).flatMap bytes).length ≤ f.room.toNat
        ∧ (∀ e, a.eq.events[k]? = some e →
            f.room.toNat < 1 + ((a.eq.events.take k).flatMap bytes).length + (4 + e.detail.length))
        ∧ exec (.poll f) s = .next (answered 0x28 f .ok
            (BitVec.ofNat 8 a.eq.events.length :: (a.eq.events.take k).flatMap bytes) (a.withMe (heard f a.me))))
    ∧ (∀ first n : Byte, TakesFrame 0x39 f s → f.params = [first, n] → first.toNat ≤ 23 → 1 ≤ n.toNat →
        first.toNat + n.toNat ≤ 24 → 3 + 2 * n.toNat ≤ f.room.toNat →
      exec (.readCounters f) s = .next (answered 0x39 f .ok
        ([a.cb.capture.number, if a.cb.capture.cycle.isSome then 0x01 else 0x00, a.cb.capture.cycle.getD 0]
          ++ ((a.cb.capture.values.toList.drop first.toNat).take n.toNat).flatMap
            fun w => [w.extractLsb' 8 8, w.extractLsb' 0 8])
        (a.withMe (heard f a.me))))
    ∧ (TakesFrame 0x28 f s →
      (f.room.toNat = 0 → exec (.poll f) s = .next (answered 0x28 f .roomShort [] (a.withMe (heard f a.me))))
      ∧ (1 ≤ f.room.toNat → f.params ≠ [] →
          exec (.poll f) s = .next (answered 0x28 f .badParam [] (a.withMe (heard f a.me)))))
    ∧ (TakesFrame 0x39 f s →
      (f.room.toNat < 3 + 2 * f.params[1]?.elim 0 BitVec.toNat → exec (.readCounters f) s = .next
        (answered 0x39 f .roomShort [] (a.withMe (heard f a.me))))
      ∧ (3 + 2 * f.params[1]?.elim 0 BitVec.toNat ≤ f.room.toNat →
          (∀ first n : Byte, f.params = [first, n] →
            ¬(first.toNat ≤ 23 ∧ 1 ≤ n.toNat ∧ n.toNat ≤ 24 ∧ first.toNat + n.toNat ≤ 24)) →
          exec (.readCounters f) s = .next (answered 0x39 f .badParam [] (a.withMe (heard f a.me)))))

/-- ACK (R144): the entry that carries the sequence named and every older one are removed, and the newer ones stay; where no
entry carries it nothing is removed and the reply is BAD_PARAM, as for a parameter length that is not 1. The next
sequence number stands. -/
def Obligations.AckRemovesRecords : Prop :=
  ∀ (f : ReqFrame) (s a : State) (v : Byte), a = atFs s → TakesFrame 0x29 f s → PassesSession f a.me →
    (f.params = [v] → ∀ (older newer : List EventRecord) (e : EventRecord), a.eq.events = older ++ e :: newer → e.sequence = v →
        (∀ x ∈ older, x.sequence ≠ v) →
      exec (.ack f) s = .next (answered 0x29 f .ok [] ((a.withMe (gated f .ok [] a.me)).withEq
        { events := newer, nextSequence := a.eq.nextSequence })))
    ∧ (f.params.length ≠ 1 ∨ (f.params = [v] ∧ ∀ x ∈ a.eq.events, x.sequence ≠ v) →
      exec (.ack f) s = .next (answered 0x29 f .badParam [] (a.withMe (gated f .badParam [] a.me))))

/-- TEST_SET (R158): refused BAD_PARAM for a parameter length or a byte out of range, and BUSY while a run is RUNNING; otherwise the configuration is stored, and each half
goes on where it stays on with the same stream, starts where it is turned on or changed, and stops where it is turned
off. The run record does not change. That a checker which begins to seek holds no register is the model's choice (log
entry 23). -/
def Obligations.TestSetConfigures : Prop :=
  ∀ (f : ReqFrame) (s a : State) (c : PatternConfig) (code : Pattern → Byte) (p : PatternUnit)
    (sameG sameC : Bool), a = atFs s → TakesFrame 0x30 f s → PassesSession f a.me →
    (∀ q, code q = match q with | .prbs9 => 0x00 | .prbs15 => 0x01 | .count => 0x02 | .word => 0x03) →
    ((∀ g gp k kp hi lo th : Byte, f.params = [g, gp, k, kp, hi, lo, th] →
        ¬(g.toNat ≤ 1 ∧ gp.toNat ≤ 3 ∧ k.toNat ≤ 1 ∧ kp.toNat ≤ 3 ∧ 2 ≤ th.toNat ∧ th.toNat ≤ 8)) →
      exec (.testSet f) s = .next (answered 0x30 f .badParam [] (a.withMe (gated f .badParam [] a.me))))
    ∧ (f.params = [if c.generatorOn then 0x01 else 0x00, code c.generatorPattern, if c.checkerOn then 0x01 else 0x00,
      code c.checkerPattern, c.word.extractLsb' 8 8, c.word.extractLsb' 0 8, BitVec.ofNat 8 c.threshold] →
    2 ≤ c.threshold → c.threshold ≤ 8 → p = a.pu →
    (sameG = true ↔ p.config.generatorOn = true ∧ p.config.generatorPattern = c.generatorPattern
      ∧ (c.generatorPattern = .word → p.config.word = c.word)) →
    (sameC = true ↔ p.config.checkerOn = true ∧ p.config.checkerPattern = c.checkerPattern
      ∧ (c.checkerPattern = .word → p.config.word = c.word)) →
    ((p.run = .running → exec (.testSet f) s = .next
      (answered 0x30 f .busy [] (a.withMe (gated f .busy [] a.me))))
    ∧ (p.run ≠ .running → exec (.testSet f) s = .next
      (answered 0x30 f .ok [] ((a.withMe (gated f .ok [] a.me)).withPu
        { p with
          config := c
          generator := if c.generatorOn = true ∧ sameG = false then
              (match c.generatorPattern with
               | .prbs9 => .prbs9 0x1FF | .prbs15 => .prbs15 0x7FFF | .count => .count 0x00 | .word => .word true)
            else p.generator
          checker := if c.checkerOn = false then .off else if sameC = true then p.checker else .seek
          checkerRegister := if c.checkerOn = true ∧ sameC = true then p.checkerRegister else none
          progress := if c.checkerOn = true ∧ sameC = true then p.progress else .empty
          window := if c.checkerOn = true ∧ sameC = true then p.window else [] })))))

/-- TEST_START (R159) and TEST_STOP: refused BAD_PARAM for a parameter length or a byte out of range; a run begins with its
counts at 0 and the window empty, the checker's state and register kept, unless one is RUNNING or the checker is off;
and a RUNNING run is stopped, its counts kept, while in IDLE or DONE nothing changes. -/
def Obligations.TestRunsStartAndStop : Prop :=
  ∀ (f : ReqFrame) (s a : State) (p : PatternUnit), a = atFs s → PassesSession f a.me → p = a.pu →
    (∀ (m : RunMode) (l : RunLength), TakesFrame 0x31 f s →
      f.params = [match m with | .continuous => 0x00 | .timed => 0x01,
                  match l with | .len256 => 0x00 | .len4096 => 0x01 | .len65535 => 0x02] →
      (p.run = .running → exec (.testStart f) s = .next
        (answered 0x31 f .busy [] (a.withMe (gated f .busy [] a.me))))
      ∧ (p.run ≠ .running → p.config.checkerOn = false → exec (.testStart f) s = .next
        (answered 0x31 f .badParam [] (a.withMe (gated f .badParam [] a.me))))
      ∧ (p.run ≠ .running → p.config.checkerOn = true → exec (.testStart f) s = .next
        (answered 0x31 f (if m = .timed then .accepted else .ok) []
          ((a.withMe (gated f (if m = .timed then .accepted else .ok) [] a.me)).withPu
            { p with run := .running, mode := m, runLength := l, checked := 0, errors := 0, resyncs := 0
                     stopped := false, window := [] }))))
    ∧ (TakesFrame 0x31 f s → (∀ x y : Byte, f.params = [x, y] → ¬(x.toNat ≤ 1 ∧ y.toNat ≤ 2)) →
      exec (.testStart f) s = .next (answered 0x31 f .badParam [] (a.withMe (gated f .badParam [] a.me))))
    ∧ (TakesFrame 0x32 f s → f.params ≠ [] →
      exec (.testStop f) s = .next (answered 0x32 f .badParam [] (a.withMe (gated f .badParam [] a.me))))
    ∧ (TakesFrame 0x32 f s → f.params = [] → exec (.testStop f) s = .next
      (answered 0x32 f .ok [] ((a.withMe (gated f .ok [] a.me)).withPu
        (if p.run = .running then { p with run := .done, stopped := true } else p))))

/-- CAPTURE (R112, R164, R165, R166): NOW replaces the capture record whole and then clears the counters where the setting
is on, the frames-taken count of its own frame falling before or after it; AT_CYCLE passes its three checks in order
and arms the deferred capture; a broadcast of either is executed without a reply, and one that is refused changes no
capture. A Room of 0 is answered ROOM_SHORT and a parameter length that is not 2 BAD_PARAM. The model's choice: that a
broadcast which carries the open tag sets the inactivity count to 0 (log entry 19), and the counter of free choices
that the order of the count draws on (log entry 3). -/
def Obligations.CaptureSnapshotsOrArms : Prop :=
  ∀ (f : ReqFrame) (s a free : State) (c : Byte) (clr inc : Vector Word16 24 → Vector Word16 24)
    (taken : Vector Word16 24 → CounterBlock), a = atFs s →
    free = a.withFreeCount (a.freeCount + 1) →
    (∀ v, clr v = if a.me.node.clearOnCapture then Vector.replicate 24 0 else v) →
    (∀ v, inc v = v.set 5 (if v[5] = 0xFFFF then 0xFFFF else v[5] + 1)) →
    (∀ v, taken v = { live := clr v, deferred := a.cb.deferred
                      capture := { number := a.cb.capture.number + 1, cycle := a.ct.cycle, values := v } }) →
    (TakesFrame 0x38 f s → f.params = [0x00, c] → 1 ≤ f.room.toNat →
      exec (.captureNow f) s = .next (withReply 0x38 f .ok [a.cb.capture.number + 1]
          ((free.withMe (heard f a.me)).withCb (taken (inc a.cb.live))))
      ∨ exec (.captureNow f) s = .next (withReply 0x38 f .ok [a.cb.capture.number + 1]
          ((free.withMe (heard f a.me)).withCb
            { taken a.cb.live with live := inc (clr a.cb.live) })))
    ∧ (MeetsFrame .broadcast 0x38 f s → f.params = [0x00, c] → exec (.captureNow f) s = .next
        (((a.withMe (heard f a.me)).withCb (taken a.cb.live)).withSp
          { frameContext 0x38 f .broadcast with executed := true }))
    ∧ (∀ now (answer : Status → DeferredCapture → State), TakesFrame 0x38 f s → f.params = [0x01, c] →
        1 ≤ f.room.toNat → a.ct.cycle = some now →
        (∀ st d, answer st d = answered 0x38 f st []
          ((free.withMe (heard f a.me)).withCb { a.cb with deferred := d })) →
        exec (.captureAtCycle f) s = .next
          (if a.ct.coasting = true then answer .notLocked a.cb.deferred
           else if ¬(1 ≤ (c - now).toNat ∧ (c - now).toNat ≤ 127) then answer .badCycle a.cb.deferred
           else if a.cb.deferred.armed = true then answer .busy a.cb.deferred
           else answer .accepted { armed := true, cycle := c }))
    ∧ (∀ now, MeetsFrame .broadcast 0x38 f s → f.params = [0x01, c] → a.ct.cycle = some now → a.ct.coasting = false →
        1 ≤ (c - now).toNat → (c - now).toNat ≤ 127 → a.cb.deferred.armed = false →
        exec (.captureAtCycle f) s = .next
          (((a.withMe (heard f a.me)).withCb { a.cb with deferred := { armed := true, cycle := c } }).withSp
            { frameContext 0x38 f .broadcast with executed := true }))
    ∧ (∀ now, MeetsFrame .broadcast 0x38 f s → f.params = [0x01, c] → a.ct.cycle = some now →
        a.ct.coasting = true ∨ ¬(1 ≤ (c - now).toNat ∧ (c - now).toNat ≤ 127) ∨ a.cb.deferred.armed = true →
        exec (.captureAtCycle f) s = .next
          ((a.withMe (heard f a.me)).withSp { frameContext 0x38 f .broadcast with executed := true }))
    ∧ (∀ (i : Instr) (mode : Byte), (mode = 0x00 ∧ i = .captureNow f) ∨ (mode = 0x01 ∧ i = .captureAtCycle f) →
        f.params[0]? = some mode →
        (TakesFrame 0x38 f s → f.room.toNat = 0 → exec i s = .next
          (answered 0x38 f .roomShort [] (free.withMe (heard f a.me))))
        ∧ (TakesFrame 0x38 f s → 1 ≤ f.room.toNat → f.params.length ≠ 2 → exec i s = .next
          (answered 0x38 f .badParam [] (free.withMe (heard f a.me))))
        ∧ (MeetsFrame .broadcast 0x38 f s → f.params.length ≠ 2 → exec i s = .next
          ((a.withMe (heard f a.me)).withSp { frameContext 0x38 f .broadcast with executed := true })))

end Requests

/-! ### Laws that every step keeps -/

section Laws
open Sys2Proof Sys2Proof.Machine

/-- The law of the Event Queue is kept by every step from every state that meets it (R138, R141, R144). -/
def Obligations.EventLawIsKept : Prop :=
  ∀ s t : State, eventLaw s.eq → step s = .next t → eventLaw t.eq

/-- The law of the two maps is kept by every step from every state that meets it (R32, R33, R36, R37). -/
def Obligations.MapLawIsKept : Prop :=
  ∀ s t : State, mapLaw s.mu → step s = .next t → mapLaw t.mu

/-- The law of the Executive, and the law of the frame in passage, is kept by every step from every state that meets it
(R105, R107, R108, R120, R126, R129, R133). -/
def Obligations.ManagementLawIsKept : Prop :=
  (∀ s t : State, managementLaw s → step s = .next t → managementLaw t)
  ∧ (∀ s t : State, frameLaw s.sp → step s = .next t → frameLaw t.sp)

/-- The law of the Branch Units is kept by every step from every state that meets it (R58, R83, R86, R88). -/
def Obligations.BranchLawIsKept : Prop :=
  ∀ s t : State, (∀ b : BranchNo, branchLaw s.bu[b]) → step s = .next t → ∀ b : BranchNo, branchLaw t.bu[b]

/-- The law of the Cycle Tracker is kept by every step from every state that meets it, the law of the maps and valid
node settings (R6, R13, R18, R26, R33); and the law of the Pattern Unit is kept by every step from every state that
meets it (R148, R152, R155 to R160). -/
def Obligations.TrackerLawIsKept : Prop :=
  (∀ s t : State, mapLaw s.mu → s.me.node.valid = true → trackerLaw s.ct → step s = .next t → trackerLaw t.ct)
  ∧ (∀ s t : State, patternLaw s.pu → step s = .next t → patternLaw t.pu)

end Laws
end

