-- ==== Sys2Proof/Laws/State.lean ====
section
/-!
SUPPORT. One lemma per field and update of State, true by definition, so that no later proof unfolds a record
update.
-/

namespace Sys2Proof.Machine

@[simp] theorem State.withInReset_inReset (s : State) (x : Bool) : (s.withInReset x).inReset = x := rfl
@[simp] theorem State.withInReset_trunk (s : State) (x : Bool) : (s.withInReset x).trunk = s.trunk := rfl
@[simp] theorem State.withInReset_ct (s : State) (x : Bool) : (s.withInReset x).ct = s.ct := rfl
@[simp] theorem State.withInReset_mu (s : State) (x : Bool) : (s.withInReset x).mu = s.mu := rfl
@[simp] theorem State.withInReset_bu (s : State) (x : Bool) : (s.withInReset x).bu = s.bu := rfl
@[simp] theorem State.withInReset_sp (s : State) (x : Bool) : (s.withInReset x).sp = s.sp := rfl
@[simp] theorem State.withInReset_me (s : State) (x : Bool) : (s.withInReset x).me = s.me := rfl
@[simp] theorem State.withInReset_eq (s : State) (x : Bool) : (s.withInReset x).eq = s.eq := rfl
@[simp] theorem State.withInReset_pu (s : State) (x : Bool) : (s.withInReset x).pu = s.pu := rfl
@[simp] theorem State.withInReset_cb (s : State) (x : Bool) : (s.withInReset x).cb = s.cb := rfl
@[simp] theorem State.withInReset_freeCount (s : State) (x : Bool) : (s.withInReset x).freeCount = s.freeCount := rfl
@[simp] theorem State.withInReset_pending (s : State) (x : Bool) : (s.withInReset x).pending = s.pending := rfl

@[simp] theorem State.withTrunk_inReset (s : State) (x : TrunkLine) : (s.withTrunk x).inReset = s.inReset := rfl
@[simp] theorem State.withTrunk_trunk (s : State) (x : TrunkLine) : (s.withTrunk x).trunk = x := rfl
@[simp] theorem State.withTrunk_ct (s : State) (x : TrunkLine) : (s.withTrunk x).ct = s.ct := rfl
@[simp] theorem State.withTrunk_mu (s : State) (x : TrunkLine) : (s.withTrunk x).mu = s.mu := rfl
@[simp] theorem State.withTrunk_bu (s : State) (x : TrunkLine) : (s.withTrunk x).bu = s.bu := rfl
@[simp] theorem State.withTrunk_sp (s : State) (x : TrunkLine) : (s.withTrunk x).sp = s.sp := rfl
@[simp] theorem State.withTrunk_me (s : State) (x : TrunkLine) : (s.withTrunk x).me = s.me := rfl
@[simp] theorem State.withTrunk_eq (s : State) (x : TrunkLine) : (s.withTrunk x).eq = s.eq := rfl
@[simp] theorem State.withTrunk_pu (s : State) (x : TrunkLine) : (s.withTrunk x).pu = s.pu := rfl
@[simp] theorem State.withTrunk_cb (s : State) (x : TrunkLine) : (s.withTrunk x).cb = s.cb := rfl
@[simp] theorem State.withTrunk_freeCount (s : State) (x : TrunkLine) : (s.withTrunk x).freeCount = s.freeCount := rfl
@[simp] theorem State.withTrunk_pending (s : State) (x : TrunkLine) : (s.withTrunk x).pending = s.pending := rfl

@[simp] theorem State.withCt_inReset (s : State) (x : CycleTracker) : (s.withCt x).inReset = s.inReset := rfl
@[simp] theorem State.withCt_trunk (s : State) (x : CycleTracker) : (s.withCt x).trunk = s.trunk := rfl
@[simp] theorem State.withCt_ct (s : State) (x : CycleTracker) : (s.withCt x).ct = x := rfl
@[simp] theorem State.withCt_mu (s : State) (x : CycleTracker) : (s.withCt x).mu = s.mu := rfl
@[simp] theorem State.withCt_bu (s : State) (x : CycleTracker) : (s.withCt x).bu = s.bu := rfl
@[simp] theorem State.withCt_sp (s : State) (x : CycleTracker) : (s.withCt x).sp = s.sp := rfl
@[simp] theorem State.withCt_me (s : State) (x : CycleTracker) : (s.withCt x).me = s.me := rfl
@[simp] theorem State.withCt_eq (s : State) (x : CycleTracker) : (s.withCt x).eq = s.eq := rfl
@[simp] theorem State.withCt_pu (s : State) (x : CycleTracker) : (s.withCt x).pu = s.pu := rfl
@[simp] theorem State.withCt_cb (s : State) (x : CycleTracker) : (s.withCt x).cb = s.cb := rfl
@[simp] theorem State.withCt_freeCount (s : State) (x : CycleTracker) : (s.withCt x).freeCount = s.freeCount := rfl
@[simp] theorem State.withCt_pending (s : State) (x : CycleTracker) : (s.withCt x).pending = s.pending := rfl

@[simp] theorem State.withMu_inReset (s : State) (x : MapUnit) : (s.withMu x).inReset = s.inReset := rfl
@[simp] theorem State.withMu_trunk (s : State) (x : MapUnit) : (s.withMu x).trunk = s.trunk := rfl
@[simp] theorem State.withMu_ct (s : State) (x : MapUnit) : (s.withMu x).ct = s.ct := rfl
@[simp] theorem State.withMu_mu (s : State) (x : MapUnit) : (s.withMu x).mu = x := rfl
@[simp] theorem State.withMu_bu (s : State) (x : MapUnit) : (s.withMu x).bu = s.bu := rfl
@[simp] theorem State.withMu_sp (s : State) (x : MapUnit) : (s.withMu x).sp = s.sp := rfl
@[simp] theorem State.withMu_me (s : State) (x : MapUnit) : (s.withMu x).me = s.me := rfl
@[simp] theorem State.withMu_eq (s : State) (x : MapUnit) : (s.withMu x).eq = s.eq := rfl
@[simp] theorem State.withMu_pu (s : State) (x : MapUnit) : (s.withMu x).pu = s.pu := rfl
@[simp] theorem State.withMu_cb (s : State) (x : MapUnit) : (s.withMu x).cb = s.cb := rfl
@[simp] theorem State.withMu_freeCount (s : State) (x : MapUnit) : (s.withMu x).freeCount = s.freeCount := rfl
@[simp] theorem State.withMu_pending (s : State) (x : MapUnit) : (s.withMu x).pending = s.pending := rfl

@[simp] theorem State.withBu_inReset (s : State) (x : Vector Branch 4) : (s.withBu x).inReset = s.inReset := rfl
@[simp] theorem State.withBu_trunk (s : State) (x : Vector Branch 4) : (s.withBu x).trunk = s.trunk := rfl
@[simp] theorem State.withBu_ct (s : State) (x : Vector Branch 4) : (s.withBu x).ct = s.ct := rfl
@[simp] theorem State.withBu_mu (s : State) (x : Vector Branch 4) : (s.withBu x).mu = s.mu := rfl
@[simp] theorem State.withBu_bu (s : State) (x : Vector Branch 4) : (s.withBu x).bu = x := rfl
@[simp] theorem State.withBu_sp (s : State) (x : Vector Branch 4) : (s.withBu x).sp = s.sp := rfl
@[simp] theorem State.withBu_me (s : State) (x : Vector Branch 4) : (s.withBu x).me = s.me := rfl
@[simp] theorem State.withBu_eq (s : State) (x : Vector Branch 4) : (s.withBu x).eq = s.eq := rfl
@[simp] theorem State.withBu_pu (s : State) (x : Vector Branch 4) : (s.withBu x).pu = s.pu := rfl
@[simp] theorem State.withBu_cb (s : State) (x : Vector Branch 4) : (s.withBu x).cb = s.cb := rfl
@[simp] theorem State.withBu_freeCount (s : State) (x : Vector Branch 4) : (s.withBu x).freeCount = s.freeCount := rfl
@[simp] theorem State.withBu_pending (s : State) (x : Vector Branch 4) : (s.withBu x).pending = s.pending := rfl

@[simp] theorem State.withSp_inReset (s : State) (x : FrameContext) : (s.withSp x).inReset = s.inReset := rfl
@[simp] theorem State.withSp_trunk (s : State) (x : FrameContext) : (s.withSp x).trunk = s.trunk := rfl
@[simp] theorem State.withSp_ct (s : State) (x : FrameContext) : (s.withSp x).ct = s.ct := rfl
@[simp] theorem State.withSp_mu (s : State) (x : FrameContext) : (s.withSp x).mu = s.mu := rfl
@[simp] theorem State.withSp_bu (s : State) (x : FrameContext) : (s.withSp x).bu = s.bu := rfl
@[simp] theorem State.withSp_sp (s : State) (x : FrameContext) : (s.withSp x).sp = x := rfl
@[simp] theorem State.withSp_me (s : State) (x : FrameContext) : (s.withSp x).me = s.me := rfl
@[simp] theorem State.withSp_eq (s : State) (x : FrameContext) : (s.withSp x).eq = s.eq := rfl
@[simp] theorem State.withSp_pu (s : State) (x : FrameContext) : (s.withSp x).pu = s.pu := rfl
@[simp] theorem State.withSp_cb (s : State) (x : FrameContext) : (s.withSp x).cb = s.cb := rfl
@[simp] theorem State.withSp_freeCount (s : State) (x : FrameContext) : (s.withSp x).freeCount = s.freeCount := rfl
@[simp] theorem State.withSp_pending (s : State) (x : FrameContext) : (s.withSp x).pending = s.pending := rfl

@[simp] theorem State.withMe_inReset (s : State) (x : Management) : (s.withMe x).inReset = s.inReset := rfl
@[simp] theorem State.withMe_trunk (s : State) (x : Management) : (s.withMe x).trunk = s.trunk := rfl
@[simp] theorem State.withMe_ct (s : State) (x : Management) : (s.withMe x).ct = s.ct := rfl
@[simp] theorem State.withMe_mu (s : State) (x : Management) : (s.withMe x).mu = s.mu := rfl
@[simp] theorem State.withMe_bu (s : State) (x : Management) : (s.withMe x).bu = s.bu := rfl
@[simp] theorem State.withMe_sp (s : State) (x : Management) : (s.withMe x).sp = s.sp := rfl
@[simp] theorem State.withMe_me (s : State) (x : Management) : (s.withMe x).me = x := rfl
@[simp] theorem State.withMe_eq (s : State) (x : Management) : (s.withMe x).eq = s.eq := rfl
@[simp] theorem State.withMe_pu (s : State) (x : Management) : (s.withMe x).pu = s.pu := rfl
@[simp] theorem State.withMe_cb (s : State) (x : Management) : (s.withMe x).cb = s.cb := rfl
@[simp] theorem State.withMe_freeCount (s : State) (x : Management) : (s.withMe x).freeCount = s.freeCount := rfl
@[simp] theorem State.withMe_pending (s : State) (x : Management) : (s.withMe x).pending = s.pending := rfl

@[simp] theorem State.withEq_inReset (s : State) (x : EventQueue) : (s.withEq x).inReset = s.inReset := rfl
@[simp] theorem State.withEq_trunk (s : State) (x : EventQueue) : (s.withEq x).trunk = s.trunk := rfl
@[simp] theorem State.withEq_ct (s : State) (x : EventQueue) : (s.withEq x).ct = s.ct := rfl
@[simp] theorem State.withEq_mu (s : State) (x : EventQueue) : (s.withEq x).mu = s.mu := rfl
@[simp] theorem State.withEq_bu (s : State) (x : EventQueue) : (s.withEq x).bu = s.bu := rfl
@[simp] theorem State.withEq_sp (s : State) (x : EventQueue) : (s.withEq x).sp = s.sp := rfl
@[simp] theorem State.withEq_me (s : State) (x : EventQueue) : (s.withEq x).me = s.me := rfl
@[simp] theorem State.withEq_eq (s : State) (x : EventQueue) : (s.withEq x).eq = x := rfl
@[simp] theorem State.withEq_pu (s : State) (x : EventQueue) : (s.withEq x).pu = s.pu := rfl
@[simp] theorem State.withEq_cb (s : State) (x : EventQueue) : (s.withEq x).cb = s.cb := rfl
@[simp] theorem State.withEq_freeCount (s : State) (x : EventQueue) : (s.withEq x).freeCount = s.freeCount := rfl
@[simp] theorem State.withEq_pending (s : State) (x : EventQueue) : (s.withEq x).pending = s.pending := rfl

@[simp] theorem State.withPu_inReset (s : State) (x : PatternUnit) : (s.withPu x).inReset = s.inReset := rfl
@[simp] theorem State.withPu_trunk (s : State) (x : PatternUnit) : (s.withPu x).trunk = s.trunk := rfl
@[simp] theorem State.withPu_ct (s : State) (x : PatternUnit) : (s.withPu x).ct = s.ct := rfl
@[simp] theorem State.withPu_mu (s : State) (x : PatternUnit) : (s.withPu x).mu = s.mu := rfl
@[simp] theorem State.withPu_bu (s : State) (x : PatternUnit) : (s.withPu x).bu = s.bu := rfl
@[simp] theorem State.withPu_sp (s : State) (x : PatternUnit) : (s.withPu x).sp = s.sp := rfl
@[simp] theorem State.withPu_me (s : State) (x : PatternUnit) : (s.withPu x).me = s.me := rfl
@[simp] theorem State.withPu_eq (s : State) (x : PatternUnit) : (s.withPu x).eq = s.eq := rfl
@[simp] theorem State.withPu_pu (s : State) (x : PatternUnit) : (s.withPu x).pu = x := rfl
@[simp] theorem State.withPu_cb (s : State) (x : PatternUnit) : (s.withPu x).cb = s.cb := rfl
@[simp] theorem State.withPu_freeCount (s : State) (x : PatternUnit) : (s.withPu x).freeCount = s.freeCount := rfl
@[simp] theorem State.withPu_pending (s : State) (x : PatternUnit) : (s.withPu x).pending = s.pending := rfl

@[simp] theorem State.withCb_inReset (s : State) (x : CounterBlock) : (s.withCb x).inReset = s.inReset := rfl
@[simp] theorem State.withCb_trunk (s : State) (x : CounterBlock) : (s.withCb x).trunk = s.trunk := rfl
@[simp] theorem State.withCb_ct (s : State) (x : CounterBlock) : (s.withCb x).ct = s.ct := rfl
@[simp] theorem State.withCb_mu (s : State) (x : CounterBlock) : (s.withCb x).mu = s.mu := rfl
@[simp] theorem State.withCb_bu (s : State) (x : CounterBlock) : (s.withCb x).bu = s.bu := rfl
@[simp] theorem State.withCb_sp (s : State) (x : CounterBlock) : (s.withCb x).sp = s.sp := rfl
@[simp] theorem State.withCb_me (s : State) (x : CounterBlock) : (s.withCb x).me = s.me := rfl
@[simp] theorem State.withCb_eq (s : State) (x : CounterBlock) : (s.withCb x).eq = s.eq := rfl
@[simp] theorem State.withCb_pu (s : State) (x : CounterBlock) : (s.withCb x).pu = s.pu := rfl
@[simp] theorem State.withCb_cb (s : State) (x : CounterBlock) : (s.withCb x).cb = x := rfl
@[simp] theorem State.withCb_freeCount (s : State) (x : CounterBlock) : (s.withCb x).freeCount = s.freeCount := rfl
@[simp] theorem State.withCb_pending (s : State) (x : CounterBlock) : (s.withCb x).pending = s.pending := rfl

@[simp] theorem State.withFreeCount_inReset (s : State) (x : Nat) : (s.withFreeCount x).inReset = s.inReset := rfl
@[simp] theorem State.withFreeCount_trunk (s : State) (x : Nat) : (s.withFreeCount x).trunk = s.trunk := rfl
@[simp] theorem State.withFreeCount_ct (s : State) (x : Nat) : (s.withFreeCount x).ct = s.ct := rfl
@[simp] theorem State.withFreeCount_mu (s : State) (x : Nat) : (s.withFreeCount x).mu = s.mu := rfl
@[simp] theorem State.withFreeCount_bu (s : State) (x : Nat) : (s.withFreeCount x).bu = s.bu := rfl
@[simp] theorem State.withFreeCount_sp (s : State) (x : Nat) : (s.withFreeCount x).sp = s.sp := rfl
@[simp] theorem State.withFreeCount_me (s : State) (x : Nat) : (s.withFreeCount x).me = s.me := rfl
@[simp] theorem State.withFreeCount_eq (s : State) (x : Nat) : (s.withFreeCount x).eq = s.eq := rfl
@[simp] theorem State.withFreeCount_pu (s : State) (x : Nat) : (s.withFreeCount x).pu = s.pu := rfl
@[simp] theorem State.withFreeCount_cb (s : State) (x : Nat) : (s.withFreeCount x).cb = s.cb := rfl
@[simp] theorem State.withFreeCount_freeCount (s : State) (x : Nat) : (s.withFreeCount x).freeCount = x := rfl
@[simp] theorem State.withFreeCount_pending (s : State) (x : Nat) : (s.withFreeCount x).pending = s.pending := rfl

@[simp] theorem State.withPending_inReset (s : State) (x : List Instr) : (s.withPending x).inReset = s.inReset := rfl
@[simp] theorem State.withPending_trunk (s : State) (x : List Instr) : (s.withPending x).trunk = s.trunk := rfl
@[simp] theorem State.withPending_ct (s : State) (x : List Instr) : (s.withPending x).ct = s.ct := rfl
@[simp] theorem State.withPending_mu (s : State) (x : List Instr) : (s.withPending x).mu = s.mu := rfl
@[simp] theorem State.withPending_bu (s : State) (x : List Instr) : (s.withPending x).bu = s.bu := rfl
@[simp] theorem State.withPending_sp (s : State) (x : List Instr) : (s.withPending x).sp = s.sp := rfl
@[simp] theorem State.withPending_me (s : State) (x : List Instr) : (s.withPending x).me = s.me := rfl
@[simp] theorem State.withPending_eq (s : State) (x : List Instr) : (s.withPending x).eq = s.eq := rfl
@[simp] theorem State.withPending_pu (s : State) (x : List Instr) : (s.withPending x).pu = s.pu := rfl
@[simp] theorem State.withPending_cb (s : State) (x : List Instr) : (s.withPending x).cb = s.cb := rfl
@[simp] theorem State.withPending_freeCount (s : State) (x : List Instr) : (s.withPending x).freeCount = s.freeCount := rfl
@[simp] theorem State.withPending_pending (s : State) (x : List Instr) : (s.withPending x).pending = x := rfl

@[simp] theorem State.withBranch_inReset (s : State) (b : BranchNo) (x : Branch) : (s.withBranch b x).inReset = s.inReset := rfl
@[simp] theorem State.withBranch_trunk (s : State) (b : BranchNo) (x : Branch) : (s.withBranch b x).trunk = s.trunk := rfl
@[simp] theorem State.withBranch_ct (s : State) (b : BranchNo) (x : Branch) : (s.withBranch b x).ct = s.ct := rfl
@[simp] theorem State.withBranch_mu (s : State) (b : BranchNo) (x : Branch) : (s.withBranch b x).mu = s.mu := rfl
@[simp] theorem State.withBranch_bu (s : State) (b : BranchNo) (x : Branch) : (s.withBranch b x).bu = s.bu.set b x := rfl
@[simp] theorem State.withBranch_sp (s : State) (b : BranchNo) (x : Branch) : (s.withBranch b x).sp = s.sp := rfl
@[simp] theorem State.withBranch_me (s : State) (b : BranchNo) (x : Branch) : (s.withBranch b x).me = s.me := rfl
@[simp] theorem State.withBranch_eq (s : State) (b : BranchNo) (x : Branch) : (s.withBranch b x).eq = s.eq := rfl
@[simp] theorem State.withBranch_pu (s : State) (b : BranchNo) (x : Branch) : (s.withBranch b x).pu = s.pu := rfl
@[simp] theorem State.withBranch_cb (s : State) (b : BranchNo) (x : Branch) : (s.withBranch b x).cb = s.cb := rfl
@[simp] theorem State.withBranch_freeCount (s : State) (b : BranchNo) (x : Branch) : (s.withBranch b x).freeCount = s.freeCount := rfl
@[simp] theorem State.withBranch_pending (s : State) (b : BranchNo) (x : Branch) : (s.withBranch b x).pending = s.pending := rfl

/-- Putting back the value a field holds changes nothing. -/
@[simp] theorem State.withSp_self (s : State) : s.withSp s.sp = s := rfl
@[simp] theorem State.withPending_self (s : State) : s.withPending s.pending = s := rfl

end Sys2Proof.Machine
end

