-- ==== Sys2Proof/Laws/Requests.lean ====
section
/-!
SUPPORT. What a frame that is taken comes to, and what the gate does with its request, said once: the proofs about
request rows cite these lemmas instead of unfolding the Service Port and the gate.
-/

namespace Sys2Proof.Machine

@[simp] theorem onMe_me (g : Management → Management) (s : State) : (onMe g s).me = g s.me := rfl
@[simp] theorem onMe_mu (g : Management → Management) (s : State) : (onMe g s).mu = s.mu := rfl
@[simp] theorem onMe_bu (g : Management → Management) (s : State) : (onMe g s).bu = s.bu := rfl
@[simp] theorem onMe_sp (g : Management → Management) (s : State) : (onMe g s).sp = s.sp := rfl
@[simp] theorem onMe_eq (g : Management → Management) (s : State) : (onMe g s).eq = s.eq := rfl
@[simp] theorem onMe_pu (g : Management → Management) (s : State) : (onMe g s).pu = s.pu := rfl
@[simp] theorem onMe_cb (g : Management → Management) (s : State) : (onMe g s).cb = s.cb := rfl
@[simp] theorem onMe_ct (g : Management → Management) (s : State) : (onMe g s).ct = s.ct := rfl
@[simp] theorem onMe_trunk (g : Management → Management) (s : State) : (onMe g s).trunk = s.trunk := rfl
@[simp] theorem onMe_inReset (g : Management → Management) (s : State) : (onMe g s).inReset = s.inReset := rfl
@[simp] theorem onMe_freeCount (g : Management → Management) (s : State) : (onMe g s).freeCount = s.freeCount := rfl
@[simp] theorem onMe_pending (g : Management → Management) (s : State) : (onMe g s).pending = s.pending := rfl

@[simp] theorem onSp_sp (g : FrameContext → FrameContext) (s : State) : (onSp g s).sp = g s.sp := rfl
@[simp] theorem onSp_me (g : FrameContext → FrameContext) (s : State) : (onSp g s).me = s.me := rfl
@[simp] theorem onSp_mu (g : FrameContext → FrameContext) (s : State) : (onSp g s).mu = s.mu := rfl
@[simp] theorem onSp_bu (g : FrameContext → FrameContext) (s : State) : (onSp g s).bu = s.bu := rfl
@[simp] theorem onSp_eq (g : FrameContext → FrameContext) (s : State) : (onSp g s).eq = s.eq := rfl
@[simp] theorem onSp_pu (g : FrameContext → FrameContext) (s : State) : (onSp g s).pu = s.pu := rfl
@[simp] theorem onSp_cb (g : FrameContext → FrameContext) (s : State) : (onSp g s).cb = s.cb := rfl
@[simp] theorem onSp_ct (g : FrameContext → FrameContext) (s : State) : (onSp g s).ct = s.ct := rfl
@[simp] theorem onSp_trunk (g : FrameContext → FrameContext) (s : State) : (onSp g s).trunk = s.trunk := rfl
@[simp] theorem onSp_inReset (g : FrameContext → FrameContext) (s : State) : (onSp g s).inReset = s.inReset := rfl
@[simp] theorem onSp_freeCount (g : FrameContext → FrameContext) (s : State) : (onSp g s).freeCount = s.freeCount := rfl
@[simp] theorem onSp_pending (g : FrameContext → FrameContext) (s : State) : (onSp g s).pending = s.pending := rfl

@[simp] theorem count_cb (i : CounterIx) (s : State) :
    (count i s).cb = { s.cb with live := s.cb.live.set i (satInc s.cb.live[i]) } := rfl
@[simp] theorem count_me (i : CounterIx) (s : State) : (count i s).me = s.me := rfl
@[simp] theorem count_mu (i : CounterIx) (s : State) : (count i s).mu = s.mu := rfl
@[simp] theorem count_bu (i : CounterIx) (s : State) : (count i s).bu = s.bu := rfl
@[simp] theorem count_sp (i : CounterIx) (s : State) : (count i s).sp = s.sp := rfl
@[simp] theorem count_eq (i : CounterIx) (s : State) : (count i s).eq = s.eq := rfl
@[simp] theorem count_pu (i : CounterIx) (s : State) : (count i s).pu = s.pu := rfl
@[simp] theorem count_ct (i : CounterIx) (s : State) : (count i s).ct = s.ct := rfl
@[simp] theorem count_trunk (i : CounterIx) (s : State) : (count i s).trunk = s.trunk := rfl
@[simp] theorem count_inReset (i : CounterIx) (s : State) : (count i s).inReset = s.inReset := rfl
@[simp] theorem count_freeCount (i : CounterIx) (s : State) : (count i s).freeCount = s.freeCount := rfl
@[simp] theorem count_pending (i : CounterIx) (s : State) : (count i s).pending = s.pending := rfl

/-- Increments touch the live counters alone. -/
theorem countAll_frame (is : List CounterIx) (s : State) :
    (countAll is s).me = s.me ∧ (countAll is s).sp = s.sp ∧ (countAll is s).ct = s.ct
      ∧ (countAll is s).inReset = s.inReset ∧ (countAll is s).mu = s.mu ∧ (countAll is s).bu = s.bu
      ∧ (countAll is s).eq = s.eq ∧ (countAll is s).pu = s.pu ∧ (countAll is s).trunk = s.trunk
      ∧ (countAll is s).freeCount = s.freeCount ∧ (countAll is s).pending = s.pending := by
  induction is generalizing s with
  | nil => simp [countAll]
  | cons i is ih => simpa [countAll] using ih (count i s)

/-- RESTART leaves the line, CT, the frame in passage and the model's queue as they are, and what it makes of ME, MU,
the branches and PU depends on those blocks alone (R136). -/
theorem carryOutRestart_frame (is : List CounterIx) (s : State) :
    (carryOutRestart is s).ct = s.ct ∧ (carryOutRestart is s).trunk = s.trunk
      ∧ (carryOutRestart is s).inReset = s.inReset ∧ (carryOutRestart is s).sp = s.sp
      ∧ (carryOutRestart is s).pending = s.pending
      ∧ (carryOutRestart is s).me = { closedSession s.me with restartCause := .request, deferredRestart := false }
      ∧ (carryOutRestart is s).mu = switchRestart s.mu ∧ (carryOutRestart is s).bu = s.bu.map stopBranch
      ∧ (carryOutRestart is s).pu = clearRun s.pu
      ∧ (carryOutRestart is s).eq
          = EventQueue.restarted .request (decide (s.mu.switch.state = .armed)) (cycleField s) := by
  simp [carryOutRestart, countRacing, counterRestart, cycleField, countAll_frame]

/-- Posts touch the Event Queue and the model's counter of free choices alone. -/
theorem postList_frame (ps : List Post) (s : State) :
    (postList ps s).me = s.me ∧ (postList ps s).sp = s.sp ∧ (postList ps s).ct = s.ct
      ∧ (postList ps s).inReset = s.inReset ∧ (postList ps s).mu = s.mu ∧ (postList ps s).bu = s.bu
      ∧ (postList ps s).cb = s.cb ∧ (postList ps s).pu = s.pu ∧ (postList ps s).trunk = s.trunk
      ∧ (postList ps s).freeCount = s.freeCount ∧ (postList ps s).pending = s.pending := by
  induction ps generalizing s with
  | nil => simp [postList]
  | cons p ps ih => simpa [postList, post] using ih (post p s)

theorem postTogether_frame (gs : List (List Post)) (s : State) :
    (postTogether gs s).me = s.me ∧ (postTogether gs s).sp = s.sp ∧ (postTogether gs s).ct = s.ct
      ∧ (postTogether gs s).inReset = s.inReset ∧ (postTogether gs s).mu = s.mu ∧ (postTogether gs s).bu = s.bu
      ∧ (postTogether gs s).cb = s.cb ∧ (postTogether gs s).pu = s.pu ∧ (postTogether gs s).trunk = s.trunk
      ∧ (postTogether gs s).pending = s.pending := by
  unfold postTogether
  split <;> simp [postList_frame]

/-- What a notice to ME from the Service Port keeps, whether or not it carries RESTART out. -/
theorem frameNotice_frame (b : Bool) (is : List CounterIx) (s : State) :
    (frameNotice b is s).ct = s.ct ∧ (frameNotice b is s).trunk = s.trunk
      ∧ (frameNotice b is s).inReset = s.inReset ∧ (frameNotice b is s).sp = s.sp
      ∧ (frameNotice b is s).pending = s.pending ∧ (frameNotice b is s).me.address = s.me.address := by
  unfold frameNotice
  split
  · simp [postTogether_frame, carryOutRestart_frame, closedSession]
  · simp [countAll_frame]

/-- The FS of a frame leaves CT, the line and the station address as they are, even where it carries RESTART out. -/
theorem atFs_frame (s : State) :
    (atFs s).ct = s.ct ∧ (atFs s).trunk = s.trunk ∧ (atFs s).inReset = s.inReset ∧ (atFs s).pending = s.pending
      ∧ (atFs s).me.address = s.me.address := by
  unfold atFs serviceElement
  split
  · simp [idleElement, countAll_frame]
  · simp [frameElement, abortByFs, frameNotice_frame]

theorem atFs_address (s : State) : (atFs s).me.address = s.me.address := (atFs_frame s).2.2.2.2

/-- A well-formed frame comes to its last request check character on the state its FS left, with the frame's own
context and the role that the address gives. -/
theorem requestStep_role {role : Role} {code : Byte} {f : ReqFrame} {s : State} (h : MeetsFrame role code f s) :
    requestStep code f s
      = atCheck true role (frameRequest code f role) ((atFs s).withSp (frameContext code f role)) := by
  obtain ⟨hr, hl, hw, hrole⟩ := h
  simp only [ReqFrame.wellFormed, decide_eq_true_eq] at hw
  have h1 : ¬(s.inReset = true ∨ s.ct.lock ≠ .locked) := by simp [hr, hl]
  have h2 : ¬(32 < f.room.toNat ∨ 32 < f.params.length) := by omega
  have h3 : (serviceElement .fs [] s).2.me.address = s.me.address := atFs_address s
  unfold requestStep
  simp only [h1, h2, if_false, h3, hrole]
  rfl

/-- R110 for a request that takes no snapshot: frames taken counts one, and ME's reply is made the pending one. -/
theorem takeRequest_of_ne_capture {r : Request} {s : State} (h : r.code ≠ ReqName.code .capture) :
    takeRequest r s = handToMe r (count cntFramesTaken s) := by
  unfold takeRequest
  rw [if_neg h]

theorem requestOfCode_code (q : ReqName) : requestOfCode q.code = some q := by cases q <;> decide

/-- The gate for a request that is sessionless at its destination (R122): steps 5 to 7 on the touched session. -/
theorem gate_sessionless {q : ReqName} {r : Request} {s : State} (hc : r.code = q.code)
    (hs : q.sessioned r.destination = false) : gate r s = serve q r (onMe (touchSession r) s) := by
  simp [gate, hc, requestOfCode_code, hs]

/-- The gate for a sessioned request that carries the open tag and no cached Sequence (R122, R124). -/
theorem gate_sessioned {q : ReqName} {r : Request} {s : State} (hc : r.code = q.code)
    (hs : q.sessioned r.destination = true) (h0 : r.session ≠ 0) (ht : tagIsOpen s.me r.session = true)
    (hf : replayOf r s.me = none) :
    gate r s = ((serve q r (onMe (touchSession r) s)).1,
      onMe (cacheReply q r (serve q r (onMe (touchSession r) s)).1) (serve q r (onMe (touchSession r) s)).2) := by
  have h1 : touchSession r s.me = { s.me with inactivity := 0 } := if_pos ht
  have ht' : tagIsOpen (touchSession r s.me) r.session = true := by rw [h1]; exact ht
  have hf' : replayOf r (touchSession r s.me) = none := by rw [h1]; exact hf
  unfold gate gateSessioned
  simp only [hc, requestOfCode_code, hs, if_true, if_neg h0, onMe_me, ht', hf', Bool.not_true, Bool.false_eq_true,
    if_false]

/-- Steps 5 to 7 for a request with room and good parameters: its owner's work (R122). -/
theorem serve_owner {q : ReqName} {r : Request} {s : State} (hb : r.broadcast = false)
    (hr : roomNeeded q r ≤ r.room) (hp : paramsOk q r = true) : serve q r s = owner q r s := by
  have : ¬(r.room < roomNeeded q r) := by omega
  simp [serve, hb, this, hp]

/-- Step 5 for a Room that is too small (R122). -/
theorem serve_roomShort {q : ReqName} {r : Request} {s : State} (hb : r.broadcast = false)
    (hr : r.room < roomNeeded q r) : serve q r s = (bare .roomShort, s) := by
  simp [serve, hb, hr]

/-- Step 6 for bad parameters (R122). -/
theorem serve_badParam {q : ReqName} {r : Request} {s : State} (hr : roomNeeded q r ≤ r.room)
    (hp : paramsOk q r = false) : serve q r s = (bare .badParam, s) := by
  have : ¬(r.room < roomNeeded q r) := by omega
  simp [serve, this, hp]

/-- ME's part of hearing a request, in the words of the statements (R124). -/
theorem touchSession_frame (code : Byte) (f : ReqFrame) (role : Role) (m : Management) :
    touchSession (frameRequest code f role) m = heard f m := by
  unfold touchSession heard tagIsOpen frameRequest
  obtain ⟨a, ses, i, l, c, tc, n, rc, d⟩ := m
  cases ses with
  | none => simp
  | some k => by_cases hk : k.tag = f.session <;> simp [hk]

/-- A request that carries the open tag leaves the inactivity count at 0 (R124). -/
theorem heard_of_open {f : ReqFrame} {m : Management} (h : m.session.map Session.tag = some f.session) :
    heard f m = { m with inactivity := 0 } := by simp [heard, h]

/-- The state on which a taken request meets the gate: frames taken counted, the frame's context in place. -/
def atGate (code : Byte) (f : ReqFrame) (s : State) : State :=
  count 5 ((atFs s).withSp (frameContext code f .taker))

@[simp] theorem atGate_me (code : Byte) (f : ReqFrame) (s : State) : (atGate code f s).me = (atFs s).me := rfl
@[simp] theorem atGate_mu (code : Byte) (f : ReqFrame) (s : State) : (atGate code f s).mu = (atFs s).mu := rfl
@[simp] theorem atGate_bu (code : Byte) (f : ReqFrame) (s : State) : (atGate code f s).bu = (atFs s).bu := rfl
@[simp] theorem atGate_eq (code : Byte) (f : ReqFrame) (s : State) : (atGate code f s).eq = (atFs s).eq := rfl
@[simp] theorem atGate_pu (code : Byte) (f : ReqFrame) (s : State) : (atGate code f s).pu = (atFs s).pu := rfl
@[simp] theorem atGate_ct (code : Byte) (f : ReqFrame) (s : State) : (atGate code f s).ct = (atFs s).ct := rfl
@[simp] theorem atGate_trunk (code : Byte) (f : ReqFrame) (s : State) : (atGate code f s).trunk = (atFs s).trunk := rfl
@[simp] theorem atGate_freeCount (code : Byte) (f : ReqFrame) (s : State) : (atGate code f s).freeCount = (atFs s).freeCount := rfl
@[simp] theorem atGate_pending (code : Byte) (f : ReqFrame) (s : State) : (atGate code f s).pending = (atFs s).pending := rfl

/-- A request that is taken: what the gate answers is the reply held, on the state the gate leaves (R110). -/
theorem requestStep_taken {code : Byte} {f : ReqFrame} {s : State} (h : TakesFrame code f s)
    (hc : code ≠ ReqName.code .capture) :
    requestStep code f s
      = onSp (fun c => { c with
          executed := true
          pendingReply := some (formReply f.room.toNat (gate (frameRequest code f .taker) (atGate code f s)).1) })
        (gate (frameRequest code f .taker) (atGate code f s)).2 := by
  rw [requestStep_role h]
  exact takeRequest_of_ne_capture hc

/-- What no owner touches (R121): the frame in passage, the line, CT, and the model's own fields. -/
theorem owner_frame (q : ReqName) (r : Request) (s : State) :
    (owner q r s).2.sp = s.sp ∧ (owner q r s).2.ct = s.ct ∧ (owner q r s).2.trunk = s.trunk
      ∧ (owner q r s).2.inReset = s.inReset ∧ (owner q r s).2.freeCount = s.freeCount
      ∧ (owner q r s).2.pending = s.pending := by
  cases q <;>
    simp only [owner, identifyOwner, assignOwner, openOwner, closeOwner, keepOwner, nodeGetOwner, nodeSetOwner,
      restartOwner, mapReadOwner, mapWriteOwner, mapLengthOwner, mapCopyOwner, mapCheckOwner, armOwner, disarmOwner,
      switchStatusOwner, branchGetOwner, branchSetOwner, branchControlOwner, pollOwner, ackOwner, testSetOwner,
      testStartOwner, testStopOwner, testStatusOwner, captureOwner, captureNowOwner, captureAtOwner,
      readCountersOwner] <;>
    (repeat' split) <;> refine ⟨?_, ?_, ?_, ?_, ?_, ?_⟩ <;> first | rfl | trivial

/-- A reply held over a state in whose frame in passage it belongs is `withReply`. -/
theorem onSp_reply {code : Byte} {f : ReqFrame} {u : State} (rep : Reply) (h : u.sp = frameContext code f .taker) :
    onSp (fun c => { c with executed := true, pendingReply := some (formReply f.room.toNat rep) }) u
      = withReply code f rep.status rep.data u := by
  unfold onSp withReply
  rw [h]
  rfl

/-- A sessionless request with room and good parameters: its owner's reply, on the state its owner leaves. -/
theorem sessionless_answered {q : ReqName} {f : ReqFrame} {s u : State} {rep : Reply} (h : TakesFrame q.code f s)
    (hc : q.code ≠ ReqName.code .capture) (hs : q.sessioned f.destination = false)
    (hr : roomNeeded q (frameRequest q.code f .taker) ≤ f.room.toNat)
    (hp : paramsOk q (frameRequest q.code f .taker) = true)
    (ho : owner q (frameRequest q.code f .taker) (onMe (heard f) (atGate q.code f s)) = (rep, u)) :
    requestStep q.code f s = withReply q.code f rep.status rep.data u := by
  have hg : gate (frameRequest q.code f .taker) (atGate q.code f s) = (rep, u) := by
    rw [gate_sessionless rfl hs, serve_owner rfl hr hp]
    have : onMe (touchSession (frameRequest q.code f .taker)) (atGate q.code f s)
        = onMe (heard f) (atGate q.code f s) := by unfold onMe; rw [touchSession_frame]
    rw [this, ho]
  have hu : u.sp = frameContext q.code f .taker := by
    have := (owner_frame q (frameRequest q.code f .taker) (onMe (heard f) (atGate q.code f s))).1
    rw [ho] at this
    exact this
  rw [requestStep_taken h hc, hg]
  exact onSp_reply rep hu

/-- A sessioned request that the session part of the gate lets pass, with room and good parameters: its owner's reply,
cached, on the state its owner leaves. -/
theorem sessioned_answered {q : ReqName} {f : ReqFrame} {s u : State} {rep : Reply} (h : TakesFrame q.code f s)
    (hc : q.code ≠ ReqName.code .capture) (hs : q.sessioned f.destination = true)
    (hses : PassesSession f (atFs s).me)
    (hr : roomNeeded q (frameRequest q.code f .taker) ≤ f.room.toNat)
    (hp : paramsOk q (frameRequest q.code f .taker) = true)
    (ho : owner q (frameRequest q.code f .taker)
        (onMe (fun m => { m with inactivity := 0 }) (atGate q.code f s)) = (rep, u)) :
    requestStep q.code f s
      = withReply q.code f rep.status rep.data (onMe (cacheReply q (frameRequest q.code f .taker) rep) u) := by
  obtain ⟨ht, h0, hf⟩ := hses
  have htag : tagIsOpen (atFs s).me f.session = true := by
    cases hk : (atFs s).me.session with
    | none => simp [hk] at ht
    | some k => simpa [tagIsOpen, hk] using ht
  have hrep : replayOf (frameRequest q.code f .taker) (atFs s).me = none := by
    unfold replayOf
    split
    · rename_i hh; exact hf hh
    · rfl
  have htouch : onMe (touchSession (frameRequest q.code f .taker)) (atGate q.code f s)
      = onMe (fun m => { m with inactivity := 0 }) (atGate q.code f s) := by
    unfold onMe
    rw [touchSession_frame, heard_of_open (m := (atGate q.code f s).me) ht]
  have hg : gate (frameRequest q.code f .taker) (atGate q.code f s)
      = (rep, onMe (cacheReply q (frameRequest q.code f .taker) rep) u) := by
    rw [gate_sessioned (s := atGate q.code f s) (r := frameRequest q.code f .taker) rfl hs h0 htag hrep,
      serve_owner rfl hr hp, htouch, ho]
  have hu : u.sp = frameContext q.code f .taker := by
    have := (owner_frame q (frameRequest q.code f .taker)
      (onMe (fun m => { m with inactivity := 0 }) (atGate q.code f s))).1
    rw [ho] at this
    exact this
  rw [requestStep_taken h hc, hg]
  exact onSp_reply rep hu

/-- A parameter byte of a frame's request. -/
theorem param_frame (code : Byte) (f : ReqFrame) (role : Role) (k : Nat) :
    (frameRequest code f role).param k = f.params.getD k 0 := rfl

end Sys2Proof.Machine
end

