-- ==== Sys2Proof/Laws/Events.lean ====
section
/-!
SUPPORT. What posts and counts do, said once: posts touch the Event Queue alone and arrive in some order of the list
(R141), counts that race with an action are each made before it or after it (R163, R164).
-/

namespace Sys2Proof.Machine

@[simp] theorem cycleField_withEq (q : EventQueue) (s : State) : cycleField (s.withEq q) = cycleField s := rfl
@[simp] theorem cycleField_withFreeCount (k : Nat) (s : State) : cycleField (s.withFreeCount k) = cycleField s := rfl

/-- Posts of a list, in its order: the Event Queue takes them one after the other, and nothing else changes. -/
theorem postList_eq (ps : List Post) (s : State) :
    postList ps s = s.withEq (ps.foldl (fun q p => postTo q (cycleField s) p) s.eq) := by
  induction ps generalizing s with
  | nil => rfl
  | cons p ps ih => exact ih (post p s)

theorem insertIdx_split {α : Type} (a : α) {r : List α} {n : Nat} (h : n ≤ r.length) :
    r.insertIdx n a = r.take n ++ a :: r.drop n := by
  induction r generalizing n with
  | nil =>
    obtain rfl : n = 0 := Nat.le_zero.1 h
    rfl
  | cons x r ih =>
    cases n with
    | zero => rfl
    | succ n => simp [ih (Nat.le_of_succ_le_succ h)]

/-- Any choice of an order is a permutation. -/
theorem arrange_perm {α : Type} (k : Nat) (xs : List α) : (arrange k xs).Perm xs := by
  induction xs generalizing k with
  | nil => exact List.Perm.nil
  | cons x xs ih =>
    have hl : (arrange (k / (xs.length + 1)) xs).length = xs.length := (ih _).length_eq
    refine (List.perm_insertIdx x _ ?_).trans ((ih _).cons x)
    rw [hl]
    exact Nat.le_of_lt_succ (Nat.mod_lt _ (Nat.succ_pos _))

theorem arrangeEach_flatten (k : Nat) (gs : List (List Post)) : (arrangeEach k gs).flatten.Perm gs.flatten := by
  induction gs generalizing k with
  | nil => exact List.Perm.nil
  | cons g gs ih => exact (arrange_perm _ g).append (ih (k + 1))

/-- Posts that reach the Event Queue together: taken in some order in which those of the first group follow one another,
and beside the model's own counter of free choices nothing but the Event Queue changes (R80, R141). -/
theorem postTogether_cons (g : List Post) (gs : List (List Post)) (s : State) :
    ∃ (before p after : List Post) (k : Nat), p.Perm g ∧ (before ++ after).Perm gs.flatten
      ∧ postTogether (g :: gs) s = (s.withFreeCount k).withEq
          ((before ++ p ++ after).foldl (fun q x => postTo q (cycleField s) x) s.eq) := by
  unfold postTogether
  split
  · exact ⟨[], g, gs.flatten, s.freeCount, List.Perm.refl _, List.Perm.refl _, postList_eq _ s⟩
  · let a := arrange (Config.freeOrder (s.freeCount + 1)) g
    let as := arrangeEach (s.freeCount + 1 + 1) gs
    let k := Config.freeOrder s.freeCount
    let r := arrange (k / (as.length + 1)) as
    let n := k % (as.length + 1)
    have hr : r.Perm as := arrange_perm _ as
    have hn : n ≤ r.length := by
      rw [hr.length_eq]
      exact Nat.le_of_lt_succ (Nat.mod_lt _ (Nat.succ_pos _))
    have hsplit : r.insertIdx n a = r.take n ++ a :: r.drop n := insertIdx_split a hn
    refine ⟨(r.take n).flatten, a, (r.drop n).flatten, s.freeCount + 1 + (g :: gs).length, arrange_perm _ g, ?_, ?_⟩
    · rw [← List.flatten_append, List.take_append_drop]
      exact hr.flatten.trans (arrangeEach_flatten _ gs)
    · rw [postList_eq]
      have : (arrange (Config.freeOrder s.freeCount) (arrangeEach (s.freeCount + 1) (g :: gs))).flatten
          = (r.take n).flatten ++ a ++ (r.drop n).flatten := by
        change (r.insertIdx n a).flatten = _
        rw [hsplit]
        simp
      rw [this]
      rfl

/-- Posts that reach the Event Queue together: taken in some order, and beside the model's own counter of free choices
nothing but the Event Queue changes (R141). -/
theorem postTogether_order (gs : List (List Post)) (s : State) :
    ∃ (qs : List Post) (k : Nat), qs.Perm gs.flatten
      ∧ postTogether gs s = (s.withFreeCount k).withEq (qs.foldl (fun q p => postTo q (cycleField s) p) s.eq) := by
  cases gs with
  | nil => exact ⟨[], s.freeCount, List.Perm.refl _, rfl⟩
  | cons g gs =>
    obtain ⟨before, p, after, k, hp, ho, h⟩ := postTogether_cons g gs s
    refine ⟨_, k, ?_, h⟩
    rw [List.append_assoc]
    refine (List.perm_append_comm_assoc before p after).trans ?_
    exact hp.append ho

/-- Where there is at most one post there is no choice of order. -/
theorem postTogether_nil (s : State) : postTogether [] s = s := rfl

theorem postTogether_single (p : Post) (s : State) :
    postTogether [[p]] s = s.withEq (postTo s.eq (cycleField s) p) := rfl

/-- Each thing a free choice splits off comes once, before or after. -/
theorem freeEarly_append_freeLate {α : Type} (xs : List α) (k : Nat) :
    (freeEarly xs k ++ freeLate xs k).Perm xs := by
  induction xs generalizing k with
  | nil => exact List.Perm.nil
  | cons x xs ih =>
    unfold freeEarly freeLate
    split
    · exact (ih (k + 1)).cons x
    · exact List.perm_middle.trans ((ih (k + 1)).cons x)

/-- Where no branch character completes behind the command under way, nothing races with it. -/
theorem racing_of_none {s : State} (h : ∀ b ch rest, s.pending ≠ .branchCharacterComplete b ch :: rest) :
    racingCounts s = [] ∧ racingPosts s = [] ∧ latePosts s = [] := by
  have hc : racingCompletions s = [] := by
    unfold racingCompletions
    cases hp : s.pending with
    | nil => rfl
    | cons i rest => cases i <;> first | rfl | exact absurd hp (h _ _ _)
  refine ⟨?_, ?_, ?_⟩ <;> simp [racingCounts, racingPosts, latePosts, hc, freeLate]

end Sys2Proof.Machine
end

