-- ==== Sys2Proof/Laws/Trunk.lean ====
section
/-!
SUPPORT. What a trunk character comes to at a slot and at a header of a locked cycle, said once: the proofs about trunk
rows cite these lemmas instead of unfolding the Cycle Tracker and the Slot Engine.
-/

namespace Sys2Proof.Machine

/-- A character with a stop bit of 0 is damaged (R3). -/
theorem stop_of_undamaged {ch : TrunkBits} (h : classify ch ≠ .damaged) : ch.stop = true := by
  by_contra hs
  exact h (by simp [classify, hs])

/-- What one count of a slot's character leaves. -/
theorem slotCounted_frame (ch : TrunkBits) (s : State) :
    (slotCounted ch s).bu = s.bu ∧ (slotCounted ch s).me = s.me ∧ (slotCounted ch s).mu = s.mu
      ∧ (slotCounted ch s).pu = s.pu ∧ (slotCounted ch s).ct = s.ct ∧ (slotCounted ch s).eq = s.eq
      ∧ (slotCounted ch s).sp = s.sp ∧ (slotCounted ch s).trunk = s.trunk ∧ (slotCounted ch s).inReset = s.inReset
      ∧ (slotCounted ch s).pending = s.pending ∧ (slotCounted ch s).freeCount = s.freeCount := by
  unfold slotCounted
  split <;> exact ⟨rfl, rfl, rfl, rfl, rfl, rfl, rfl, rfl, rfl, rfl, rfl⟩

/-- A character at a slot of a locked cycle: what the Slot Engine makes of it, answered (R18, R46). -/
theorem exec_slot {i : SlotIx} {e : Entry} {s : State} (h : AtSlot i e s) (ch : TrunkBits) :
    exec (.trunkCharacterReceived ch) s = .next
      (slotAnswered i ch (slotStep i (classify ch) (if classify ch = .damaged then [0] else []) s).1
        (slotStep i (classify ch) (if classify ch = .damaged then [0] else []) s).2) := by
  obtain ⟨hr, hl, hp, _⟩ := h
  change Host.Outcome.next (trunkStep ch s) = _
  unfold trunkStep
  rw [if_pos hr]
  simp only [trackerStep, hl, lockedStep, hp, lockedSlot]
  rfl

/-- The same at a slot that is not SERVICE: the character's one count is made, and its entry says the rest (R47). -/
theorem exec_payloadSlot {i : SlotIx} {e : Entry} {s : State} (h : AtSlot i e s) (he : e ≠ .service)
    (ch : TrunkBits) :
    exec (.trunkCharacterReceived ch) s = .next
      (slotAnswered i ch (payloadSlot e (classify ch) (slotCounted ch s)).1
        (payloadSlot e (classify ch) (slotCounted ch s)).2) := by
  have key : slotStep i (classify ch) (if classify ch = .damaged then [0] else []) s
      = payloadSlot e (classify ch) (slotCounted ch s) := by
    unfold slotStep
    rw [h.entry, if_neg he]
    congr 1
    unfold slotCounted slotCounts usable TrunkChar.isMarked
    rcases hc : classify ch <;> simp [countAll, cntDamaged]
  rw [exec_slot h, key]

/-- A header notice where no switch is in flight: its number is recorded (R62). -/
theorem switchNotice_idle {m : MapUnit} (h : m.switch.state = .idle) (n : Byte) (jump : Bool) :
    switchNotice n jump m = (noted n m, []) := by
  simp [switchNotice, fireDue, guardEndDue, abandonDue, jumpCompleteDue, recordHeader, h, noted]

/-- A header notice at which the session does not expire (R129). -/
theorem sessionNotice_quiet {m : Management}
    (h : m.session.isSome = true → m.inactivity + 1 < 16 * m.node.sessionTimeout.toNat) :
    sessionNotice m = (timed m, []) := by
  obtain ⟨a, ses, i, l, c, tc, n, rc, d⟩ := m
  cases ses with
  | none => rfl
  | some k =>
    have h' := h rfl
    have he : ¬(16 * n.sessionTimeout.toNat ≤ i + 1) := by
      change i + 1 < 16 * n.sessionTimeout.toNat at h'
      omega
    simp [sessionNotice, expiryDue, timed, he]

/-- A header notice where no deferred capture is ARMED: the increments of the character alone (R167). -/
theorem captureNotice_idle {s : State} (h : s.cb.deferred.armed = false) (n : Byte) (jump : Bool)
    (is : List CounterIx) : captureNotice n jump is s = (countAll is s, []) := by
  simp [captureNotice, captureDue, h]

/-- A header notice that finds the switch waiting for another header: its number is recorded and nothing is posted
(R62, R69, R71). -/
theorem switchNotice_waits {n : Byte} {m : MapUnit} (h : SwitchWaits n m.switch) :
    switchNotice n false m = (noted n m, []) := by
  have ha := fun x => (h.1 x).symm
  have hg := fun x => (h.2 x).symm
  cases hs : m.switch.state <;>
    simp_all [switchNotice, fireDue, guardEndDue, abandonDue, jumpCompleteDue, recordHeader, noted]

/-- A header notice that finds the deferred capture waiting for another header: the increments of the character alone
(R167). -/
theorem captureNotice_waits {n : Byte} {s : State} (h : CaptureWaits n s.cb.deferred) (is : List CounterIx) :
    captureNotice n false is s = (countAll is s, []) := by
  have hc := fun x => (h x).symm
  cases ha : s.cb.deferred.armed <;> simp_all [captureNotice, captureDue]

end Sys2Proof.Machine
end

