-- ==== Sys2Proof/Tests/Slice0.lean ====
section
/-!
SUPPORT. Small checks of the model against the spec's own examples and tables, one ill-formed command for each check of
WellFormed, and for each statement with hypotheses one theorem `test_meets_…` that shows a state and operands which meet
them all.
-/

namespace Sys2Proof.Tests
set_option Elab.async false
open Sys2Proof Sys2Proof.Machine

/-! ### Small states -/

/-- The state a command gives. -/
def after (i : Instr) (s : State) : State :=
  match exec i s with
  | .next t => t
  | .fault _ => s
  | .refused _ => s

/-- After a hard reset, TI sampled at 1 (R2). -/
def ready : State := State.reset.withTrunk { wait := .fall, out := none }

/-- In CONFIRM at a position, on the way from cycle 41 (spec/02, "Gaining Lock"). -/
def confirming (tally : Nat) (p : Position) : State :=
  ready.withCt { CycleTracker.reset with lock := .confirm, tally := tally, reference := some 42, slotsToGo := 16, position := p }

/-- LOCKED at cycle 41 on the bootstrap map, at a position. -/
def locked (p : Position) : State :=
  ready.withCt { CycleTracker.reset with lock := .locked, cycle := some 41, slotsToGo := 16, position := p }

/-- LOCKED, with address 5 and its session open by controller 1 under tag 1. -/
def station : State :=
  (locked .header0).withMe { Management.reset .power with address := 5, session := some { owner := 1, tag := 1 }, tagCounter := 1 }

/-- A map of length 16 with the entries listed and PASS elsewhere. -/
def mapOf (es : List (Nat × Entry)) : SlotMap :=
  { length := 16, entries := es.foldl (fun v e => v.setIfInBounds e.1 e.2) (Vector.replicate 120 .pass) }

/-- LOCKED at slot 1, whose Live entry is given. -/
def atSlot1 (e : Entry) : State :=
  let s := locked (.slot 1)
  s.withMu { s.mu with live := mapOf [(0, .service), (1, e), (8, .service)] }

/-- A branch enabled from the default record. -/
def freshBranch : Branch := enableBranch (Branch.disabledWith BranchConfig.default)

/-- A frame to address 5 from controller 1. -/
def frameOf (session sequence room : Byte) (params : List Byte) : ReqFrame :=
  { destination := 5, claim := 0, controller := 1, session := session, sequence := sequence, room := room, params := params }

/-- A plain character as it is sent. -/
def plainBits (v : Byte) : TrunkBits := formTrunk (plainOut v)

/-! ### The check, the characters and the patterns -/

/-- spec/07 R103: the check of the nine bytes 31h to 39h is 29B1h. -/
theorem test_crc_check_value : crc16 [0x31, 0x32, 0x33, 0x34, 0x35, 0x36, 0x37, 0x38, 0x39] = 0x29B1 := by
  decide +kernel

/-- spec/01 R1: the levels of SYNC on the line. -/
theorem test_sync_levels : trunkLevels (formTrunk syncOut)
    = [false, false, false, true, true, true, true, false, false, true, false, true] := by decide

/-- spec/01, "The Bootstrap Cycle on the Line": the fill byte FFh goes out with a parity bit of 1. -/
theorem test_fill_parity : (plainBits 0xFF).parity = true := by decide

/-- spec/10, "A Timed Run With One Resync": PRBS9 from all ones gives 07h and BEh. -/
theorem test_prbs9_bytes : (nextByte 0 (.prbs9 0x1FF)).1 = 0x07
    ∧ (nextByte 0 (nextByte 0 (.prbs9 0x1FF)).2).1 = 0xBE := by decide

/-- spec/10 R149: PRBS15 from all ones gives 00h and 02h. -/
theorem test_prbs15_bytes : (nextByte 0 (.prbs15 0x7FFF)).1 = 0x00
    ∧ (nextByte 0 (nextByte 0 (.prbs15 0x7FFF)).2).1 = 0x02 := by decide

/-- spec/10 R150: COUNT gives FEh, FFh, 00h. -/
theorem test_count_bytes : (nextByte 0 (.count 0xFE)).1 = 0xFE ∧ (nextByte 0 (nextByte 0 (.count 0xFE)).2).1 = 0xFF
    ∧ (nextByte 0 (nextByte 0 (nextByte 0 (.count 0xFE)).2).2).1 = 0x00 := by decide

/-- spec/01 R7: distances are taken modulo 256. -/
theorem test_distance_wraps : distance 250 4 = 10 ∧ distance 200 202 = 2 := by decide

/-- spec/03 R32: EXCHANGE of branch 1 is 41h, and 44h, 51h, 70h are invalid. -/
theorem test_entry_bytes : Entry.byte (.exchange 1) = 0x41 ∧ entryOfByte 0x41 = some (.exchange 1)
    ∧ entryOfByte 0x44 = none ∧ entryOfByte 0x51 = none ∧ entryOfByte 0x70 = none := by decide

/-! ### WellFormed: one ill-formed command for each check -/

theorem test_room_33_is_ill_formed : (Instr.keep (frameOf 1 1 33 [])).wellFormed = false := by decide
theorem test_33_params_are_ill_formed : (Instr.keep (frameOf 1 1 0 (List.replicate 33 0))).wellFormed = false := by decide
theorem test_wrong_action_is_ill_formed : (Instr.enable (frameOf 1 1 0 [0, 2])).wellFormed = false := by decide
theorem test_wrong_mode_is_ill_formed : (Instr.captureNow (frameOf 0 1 1 [1, 60])).wellFormed = false := by decide
theorem test_known_code_is_ill_formed : (Instr.unknownRequest 0x14 (frameOf 0 1 3 [])).wellFormed = false := by decide
theorem test_keep_is_well_formed : (Instr.keep (frameOf 1 1 32 (List.replicate 32 0))).wellFormed = true := by decide

/-! ### One step of a command -/

/-- spec/01, "The Bootstrap Cycle on the Line": a damaged character in a PASS slot leaves as FFh and is counted. -/
theorem test_damaged_slot_sends_fill :
    let t := after (.trunkCharacterReceived { data := 0, mark := false, parity := true, stop := false }) (atSlot1 .pass)
    t.trunk.out = some (plainBits 0xFF) ∧ t.cb.live[0] = 1 ∧ t.ct.position = .slot 2 := by decide +kernel

/-- spec/02, "A Cycle Jump": expected 60 and received 70. -/
theorem test_cycle_jump :
    let s := (locked .header1).withCt { (locked .header1).ct with cycle := some 59 }
    let t := after (.trunkCharacterReceived (plainBits 70)) s
    t.ct.cycle = some 70 ∧ t.cb.live[3] = 1
      ∧ (t.eq.events.map fun e => (e.kind, e.cycle, e.detail)).getLast? = some (.cycleJump, some 70, [60, 70]) := by
  decide +kernel

/-- spec/02, "Gaining Lock": the number that completes the confirm count locks the part on it. -/
theorem test_lock_gained : (after (.lockGained (plainBits 42)) (confirming 2 .header1)).ct.cycle = some 42
    ∧ (after (.lockGained (plainBits 42)) (confirming 2 .header1)).eq.events.map EventRecord.kind
        = [.restarted, .lockGained] := by decide +kernel

/-- LOCK_GAINED with a tally that the number does not complete is no step of that row (log entry 1). -/
theorem test_lock_not_gained : after (.lockGained (plainBits 42)) (confirming 1 .header1) = confirming 1 .header1 := by
  decide +kernel

/-- spec/02, "Coasting, Recovery and Loss": a second consecutive miss, damaged, loses lock; LOCK_LOST carries the
last number, and a miss, a damaged character and a lock loss are counted. -/
theorem test_lock_lost :
    let s := (locked .header0).withCt { (locked .header0).ct with missCount := 1, cycle := some 52 }
    let t := after (.lockLost { data := 0, mark := false, parity := true, stop := false }) s
    t.ct.lock = .hunt ∧ (t.eq.events.map fun e => (e.kind, e.cycle, e.detail))
        = [(.restarted, none, [0, 0]), (.lockLost, none, [52])]
      ∧ t.cb.live.toList.take 4 = [1, 1, 1, 0] ∧ t.trunk.out = some (plainBits 0xFF) := by decide +kernel

/-- A part whose fallback count is one short of the default threshold, 64 times 256, with a Live map of length 20. -/
def nearFallback : State :=
  let s := ready.withCt { CycleTracker.reset with fallbackCount := 16383 }
  s.withMu { s.mu with live := { SlotMap.bootstrap with length := 20 } }

/-- R27: a length that differs brings both maps back to bootstrap and posts FALLBACK. -/
theorem test_fallback : (after (.fallbackAction (plainBits 0x11)) nearFallback).mu.live = SlotMap.bootstrap
    ∧ (after (.fallbackAction (plainBits 0x11)) nearFallback).ct.fallbackCount = 0
    ∧ (after (.fallbackAction (plainBits 0x11)) nearFallback).eq.events.map EventRecord.kind = [.restarted, .fallback] := by
  decide +kernel

/-- A station one header short of the expiry of its session: 16 times the default timeout is 256. -/
def nearExpiry : State :=
  let s := locked .header1
  s.withMe { station.me with inactivity := 255 }

/-- R129: the 256th header notice expires the session. -/
theorem test_session_expired : (after (.sessionExpired (plainBits 42)) nearExpiry).me.session = none
    ∧ (after (.sessionExpired (plainBits 42)) nearExpiry).eq.events.getLast?.map EventRecord.detail = some [1, 1] := by
  decide +kernel

/-- spec/05, "A Partial Switch": the Live and the Pending map. -/
def partialMaps : MapUnit where
  live := mapOf [(0, .service), (1, .drop 0), (2, .drop 0), (3, .insert 1), (5, .exchange 2), (7, .tap 3),
    (8, .service), (10, .insert 0)]
  pendingMap := mapOf [(0, .service), (1, .drop 0), (2, .insert 1), (4, .drop 2), (5, .exchange 2), (6, .drop 3),
    (8, .service), (9, .test), (10, .insert 1), (11, .drop 0)]
  switch := SwitchRecord.reset

/-- spec/05, "A Partial Switch": the counts 5, 3 and 3. -/
theorem test_partial_counts : movedCount partialMaps 0x13 = 5 ∧ heldCount partialMaps 0x13 = 3
    ∧ guardedCount partialMaps 0x13 2 = 3 := by decide +kernel

/-- The station of spec/05, "A Partial Switch", in a service slot of cycle 196. -/
def partialStation : State :=
  let s := (locked .header0).withCt { (locked .header0).ct with cycle := some 196 }
  (s.withMu partialMaps).withMe { station.me with session := some { owner := 1, tag := 7 }, tagCounter := 7 }

/-- The ARM of that example: groups B0, B1 and T, cycle 200. -/
def partialArm : ReqFrame :=
  frameOf 7 1 3 [0x13, 200, hiByte (mapCheck partialMaps.pendingMap), loByte (mapCheck partialMaps.pendingMap)]

/-- What the part will answer: Status and the Q data bytes. -/
def replyOf (s : State) : Option (Status × List Byte) := s.sp.pendingReply.map fun p => (p.status, p.data.take p.q)

/-- spec/05, "A Partial Switch": ACCEPTED 05h 03h 03h, ARMED for 200 with guard end 202. -/
theorem test_arm : replyOf (after (.arm partialArm) partialStation) = some (.accepted, [5, 3, 3])
    ∧ (after (.arm partialArm) partialStation).mu.switch.state = .armed
    ∧ (after (.arm partialArm) partialStation).mu.switch.guardEnd = 202 := by decide +kernel

/-- The switch of that example, armed, before the header of cycle 200. -/
def partialArmed : State :=
  let s := after (.arm partialArm) partialStation
  s.withCt { s.ct with cycle := some 199, position := .header1 }

/-- spec/05, "A Partial Switch": at cycle 200 the guarded indices 2, 10 and 11 take GUARD, 3 and 9 their Pending
entries, and the held ones stand. -/
theorem test_switch_fires :
    let t := after (.switchFire (plainBits 200)) partialArmed
    t.mu.live.entries.toList.take 12 = [.service, .drop 0, .guard, .pass, .pass, .exchange 2, .pass, .tap 3, .service,
      .test, .guard, .guard] ∧ t.mu.switch.state = .guarding := by decide +kernel

/-- The same switch in GUARDING, before the header of cycle 202. -/
def partialGuarding : State :=
  let s := after (.switchFire (plainBits 200)) partialArmed
  s.withCt { s.ct with cycle := some 201, position := .header1 }

/-- spec/05, "A Partial Switch": at cycle 202 the guard ends and SWITCH_DONE carries 200, 5, 3, 3. -/
theorem test_guard_ends :
    let t := after (.guardEnd (plainBits 202)) partialGuarding
    (t.mu.live.entries.toList.drop 9).take 3 = [.test, .insert 1, .drop 0]
      ∧ t.eq.events.getLast?.map EventRecord.detail = some [200, 5, 3, 3, 0] := by decide +kernel

/-- spec/11, "A Ring-Wide Capture", station B at the header of cycle 60. -/
def captureStation : State :=
  let s := (locked .header1).withCt { (locked .header1).ct with cycle := some 59 }
  let s := s.withMe { s.me with node := { NodeSettings.default with clearOnCapture := true } }
  s.withCb { live := (Vector.replicate 24 0).set 0 3
             capture := { number := 6, cycle := none, values := Vector.replicate 24 0 }
             deferred := { armed := true, cycle := 60 } }

/-- spec/11, "A Ring-Wide Capture": capture number 7, cycle 60, value 0 is 3, and counter 0 becomes 0. -/
theorem test_deferred_capture :
    let t := after (.deferredCapture (plainBits 60)) captureStation
    t.cb.capture.number = 7 ∧ t.cb.capture.cycle = some 60 ∧ t.cb.capture.values[0] = 3 ∧ t.cb.live[0] = 0
      ∧ t.eq.events.getLast?.map EventRecord.detail = some [7] := by decide +kernel

/-- A checker LOCKED on COUNT in a TEST slot, in a TIMED run of 256 with counts and a window given. -/
def checking (checked errors : Word16) (resyncs : Byte) (window : List Bool) : State :=
  (atSlot1 .test).withPu { PatternUnit.reset with
    config := { PatternUnit.reset.config with checkerOn := true, checkerPattern := .count }
    checker := .locked, checkerRegister := some (.count 9), window := window
    run := .running, mode := .timed, checked := checked, errors := errors, resyncs := resyncs }

/-- spec/10, "A Timed Run With One Resync", element 154: errors 7, resyncs 1, and the checker seeks. -/
theorem test_checker_resyncs :
    let t := after (.checkerResync (plainBits 0xFF)) (checking 153 6 0 [false, false, false, false, true, true, true])
    t.pu.checker = .seek ∧ t.pu.checked = 154 ∧ t.pu.errors = 7 ∧ t.pu.resyncs = 1 := by decide +kernel

/-- spec/10, "A Timed Run With One Resync", element 256: TEST_DONE with 0100h, 0007h, 01h. -/
theorem test_timed_run_ends :
    let t := after (.testDone (plainBits 9)) (checking 255 7 1 [])
    t.pu.run = .done ∧ t.eq.events.getLast?.map EventRecord.detail = some [1, 0, 0, 7, 1] := by decide +kernel

/-- A station at its SERVICE slot 0 in a frame at END whose RESTART was executed, with a switch ARMED. -/
def restarting : State :=
  let s := (station.withCt (locked (.slot 0)).ct).withMe { station.me with deferredRestart := true }
  let s := s.withMu { s.mu with switch := { SwitchRecord.reset with state := .armed, cycle := 140 } }
  s.withSp { FrameContext.reset with parser := .finish, role := .taker, executed := true }

/-- spec/08, "RESTART With an Armed Switch": the session closes, and RESTARTED says REQUEST with the flag set. -/
theorem test_restart_carried_out :
    let t := after (.restartCarriedOut (formTrunk { mark := true, data := 0x5E })) restarting
    t.me.session = none ∧ t.mu.switch.outcome = .abandoned ∧ t.mu.switch.reason = .restart
      ∧ t.eq.events.map EventRecord.detail = [[2, 1]] := by decide +kernel

/-- spec/06, "A Drop Overrun": branch 0 with 32 bytes queued and the transmitter SENDING. -/
def fullDrop : State :=
  (atSlot1 (.drop 0)).withBranch 0 { freshBranch with dropQueue := List.replicate 32 0x11, sending := some 0x11 }

/-- spec/06, "A Drop Overrun": the push is discarded and counted, and DROP_OVERRUN posted once. -/
theorem test_drop_overrun :
    let t := after (.trunkCharacterReceived (plainBits 0x20)) fullDrop
    t.bu[0].dropReported = true ∧ t.cb.live[8] = 1 ∧ t.eq.events.map EventRecord.kind = [.restarted, .dropOverrun] := by
  decide +kernel

/-- spec/06, "The HOLD Policy": branch 3 with 41h queued and a character under way. -/
def holdBranch : State :=
  ready.withBranch 3 { freshBranch with
    config := { BranchConfig.default with parity := .even, policy := .hold, startLevel := 2 }
    line := .receiving, side := .filling, insertQueue := [0x41] }

/-- spec/06, "The HOLD Policy": good 42h makes the side FLOWING. -/
theorem test_branch_good :
    let t := after (.branchCharacterComplete 3 { data := 0x42, parity := false, stop := true }) holdBranch
    t.bu[3].insertQueue = [0x41, 0x42] ∧ t.bu[3].side = .flowing ∧ t.bu[3].line = .waitStart := by decide +kernel

/-- spec/06, "The HOLD Policy": a wrong parity counts a receive error and holds the receiver. -/
theorem test_branch_bad :
    let t := after (.branchCharacterComplete 3 { data := 0x43, parity := false, stop := true }) holdBranch
    t.bu[3].receiver = .hold ∧ t.cb.live[23] = 1 ∧ t.eq.events.getLast?.map EventRecord.detail = some [3] := by
  decide +kernel

/-- R88: the transmitter pops the oldest byte. -/
theorem test_branch_sent : (after (.branchCharacterSent 0) fullDrop).bu[0].dropQueue.length = 31 := by decide +kernel

/-- R2, R89: the line rows. -/
theorem test_line_rows : (after .trunkLineHigh State.reset).trunk.wait = .fall ∧ after .trunkFalseStart ready = ready
    ∧ (after (.branchFalseStart 3) holdBranch).bu[3].line = .waitStart
    ∧ (after (.branchLineHigh 1) (ready.withBranch 1 freshBranch)).bu[1].line = .waitStart
    ∧ (after (.branchStartFall 1) (ready.withBranch 1 { freshBranch with line := .waitStart })).bu[1].line = .receiving := by
  decide +kernel

/-- R12, R137: a pin reset ends with cause PIN; a power failure while it lasts makes the cause POWER. -/
theorem test_reset_cause : (after .hardResetEnd (after (.hardReset .pin) station)).me.restartCause = .pin
    ∧ (after .hardResetEnd (after (.hardReset .power) (after (.hardReset .pin) station))).me.restartCause = .power
    ∧ (after .hardResetEnd (after (.hardReset .pin) station)).me.address = 0 := by decide +kernel

/-- R132: IDENTIFY. -/
theorem test_identify : replyOf (after (.identify (frameOf 0 1 10 [])) station)
    = some (.ok, [0x41, 0x01, 5, 0x02, 1, 1, 0, 16, 0, 1]) := by decide +kernel

/-- R131: ASSIGN to destination 0 sets the address of a part that has none. -/
theorem test_assign : (after (.assign { frameOf 0 1 0 [9] with destination := 0 }) (locked .header0)).me.address = 9 := by
  decide +kernel

/-- R126: the owner's OPEN issues the next tag; another controller's is answered HELD with the owner's name. -/
theorem test_open : replyOf (after (.openSession (frameOf 0 1 1 [])) station) = some (.ok, [2])
    ∧ replyOf (after (.openSession { frameOf 0 1 1 [] with controller := 3 }) station) = some (.held, [1]) := by
  decide +kernel

/-- R128. -/
theorem test_close : (after (.closeSession (frameOf 1 1 0 [])) station).me.session = none
    ∧ (after (.closeSession (frameOf 1 1 0 [])) station).me.tagCounter = 1 := by decide +kernel

/-- R124, R128: KEEP sets the inactivity count to 0. -/
theorem test_keep : (after (.keep (frameOf 1 1 0 [])) (station.withMe { station.me with inactivity := 200 })).me.inactivity = 0 := by
  decide +kernel

/-- R133: the default settings. -/
theorem test_node_get : replyOf (after (.nodeGet (frameOf 0 1 8 [])) station)
    = some (.ok, [0xFF, 2, 16, 3, 2, 64, 1, 0]) := by decide +kernel

/-- R134: a confirm count of 8 is out of range, and the record stands. -/
theorem test_node_set : (after (.nodeSet (frameOf 1 1 0 [0x55, 7, 1, 2, 1, 0, 0, 1])) station).me.node.fill = 0x55
    ∧ replyOf (after (.nodeSet (frameOf 1 1 0 [0x55, 7, 1, 8, 1, 0, 0, 1])) station) = some (.badParam, []) := by
  decide +kernel

/-- R135. -/
theorem test_restart : (after (.restart (frameOf 1 1 0 [])) station).me.deferredRestart = true := by decide +kernel

/-- R122: a Code that names no request, and step 2 for a sessioned request without a tag. -/
theorem test_unknown_request : replyOf (after (.unknownRequest 0x7F (frameOf 1 1 0 [])) station) = some (.badCode, [])
    ∧ replyOf (after (.keep (frameOf 0 1 0 [])) station) = some (.noSession, []) := by decide +kernel

/-- R40: the bootstrap map's length and its entries 7 to 9. -/
theorem test_map_read : replyOf (after (.mapRead (frameOf 0 1 32 [0, 7, 3])) station)
    = some (.ok, [16, 0x00, 0x50, 0x00]) := by decide +kernel

/-- R41: two entries stored from index 118, and one invalid byte refuses the whole. -/
theorem test_map_write : (after (.mapWrite (frameOf 1 1 0 [118, 0x41, 0x60])) station).mu.pendingMap.entries[119] = .test
    ∧ replyOf (after (.mapWrite (frameOf 1 1 0 [118, 0x41, 0x44])) station) = some (.badParam, []) := by decide +kernel

/-- spec/07, "A Sessioned Request With a Lost Reply": MAP_LENGTH 20, and the same Sequence is answered from the cache. -/
theorem test_map_length : (after (.mapLength (frameOf 1 5 0 [20])) station).mu.pendingMap.length = 20
    ∧ (after (.mapLength (frameOf 1 5 0 [30])) (after (.mapLength (frameOf 1 5 0 [20])) station)).mu.pendingMap.length = 20 := by
  decide +kernel

/-- R43. -/
theorem test_map_copy : (after (.mapCopy (frameOf 1 1 0 [])) partialStation).mu.pendingMap = partialStation.mu.pendingMap
    ∧ (after (.mapCopy (frameOf 7 1 0 [])) partialStation).mu.pendingMap = partialMaps.live := by decide +kernel

/-- R44: MAP_CHECK answers the length and the check of Pending. -/
theorem test_map_check : replyOf (after (.mapCheck (frameOf 0 1 3 [])) station)
    = some (.ok, mapCheckData SlotMap.bootstrap) := by decide +kernel

/-- R78: an ARMED switch is cancelled. -/
theorem test_disarm : replyOf (after (.disarm (frameOf 7 2 5 [])) (after (.arm partialArm) partialStation))
    = some (.ok, [0, 2, 0, 200, 0]) := by decide +kernel

/-- R81: the record of the armed example. -/
theorem test_switch_status : replyOf (after (.switchStatus (frameOf 0 2 13 [])) (after (.arm partialArm) partialStation))
    = some (.ok, [1, 200, 0x13, 2, 202, 5, 3, 3, 7, 0, 0, 0, 0]) := by decide +kernel

/-- R94, R99, R100: the default record of a branch, and a record stored. -/
theorem test_branch_record : replyOf (after (.branchGet (frameOf 0 1 13 [2])) station)
      = some (.ok, [8, 0, 1, 0, 1, 0, 0, 0, 0, 0, 0, 0, 0])
    ∧ (after (.branchSet (frameOf 1 1 0 [2, 7, 2, 2, 0x0F, 0xFF, 1, 31])) station).bu[2].config
      = { sevenBits := true, parity := .odd, twoStops := true, divisor := 4095, policy := .hold, startLevel := 31 } := by
  decide +kernel

/-- R96: ENABLE and DISABLE. -/
theorem test_branch_enable : (after (.enable (frameOf 1 1 0 [0, 1])) station).bu[0] = freshBranch
    ∧ (after (.disable (frameOf 1 1 0 [0, 2])) (station.withBranch 0 freshBranch)).bu[0].enabled = false := by decide +kernel

/-- R97, R98: CLEAR_HOLD, FLUSH_DROP and FLUSH_INSERT. -/
theorem test_branch_flush :
    let s := station.withBranch 0 { freshBranch with receiver := .hold, dropQueue := [1, 2], sending := some 9, insertQueue := [3] }
    (after (.clearHold (frameOf 1 1 0 [0, 3])) s).bu[0].receiver = .run
      ∧ (after (.flushDrop (frameOf 1 1 0 [0, 4])) s).bu[0].sending = some 9
      ∧ (after (.flushDrop (frameOf 1 1 0 [0, 4])) s).bu[0].dropQueue = []
      ∧ (after (.flushInsert (frameOf 1 1 0 [0, 5])) s).bu[0].insertQueue = [] := by decide +kernel

/-- R142, R144: POLL gives the one record whole, and ACK removes it. -/
theorem test_poll_and_ack : replyOf (after (.poll (frameOf 0 1 32 [])) station) = some (.ok, [1, 0, 0x01, 2, 0, 0, 0])
    ∧ (after (.ack (frameOf 1 1 0 [0])) station).eq.events = []
    ∧ replyOf (after (.ack (frameOf 1 1 0 [9])) station) = some (.badParam, []) := by decide +kernel

/-- R158: the generator starts from its start value and the checker seeks. -/
theorem test_test_set : (after (.testSet (frameOf 1 1 0 [1, 0, 1, 2, 0, 0, 4])) station).pu.generator = .prbs9 0x1FF
    ∧ (after (.testSet (frameOf 1 1 0 [1, 0, 1, 2, 0, 0, 4])) station).pu.checker = .seek := by decide +kernel

/-- R159, R160, R161: a run begins, is reported and is stopped; with the checker off none begins. -/
theorem test_test_run :
    let s := station.withPu (checking 0 0 0 []).pu
    let go := s.withPu { s.pu with run := .idle }
    replyOf (after (.testStart (frameOf 1 1 0 [1, 0])) go) = some (.accepted, [])
      ∧ replyOf (after (.testStart (frameOf 1 1 0 [1, 0])) station) = some (.badParam, [])
      ∧ (after (.testStop (frameOf 1 1 0 [])) s).pu.stopped = true
      ∧ (replyOf (after (.testStatus (frameOf 0 1 18 [])) s)).map (fun r => r.2.take 3) = some [1, 1, 0] := by decide +kernel

/-- spec/11, "A Ring-Wide Capture": a broadcast AT_CYCLE from cycle 36 arms for 60; and NOW takes the next number. -/
theorem test_capture :
    let s := (locked .header0).withCt { (locked .header0).ct with cycle := some 36 }
    (after (.captureAtCycle { frameOf 0 1 0 [1, 60] with destination := 255 }) s).cb.deferred = { armed := true, cycle := 60 }
      ∧ (after (.captureNow { frameOf 0 1 0 [0, 0] with destination := 255 }) s).cb.capture.number = 1 := by decide +kernel

/-- spec/11, "A Ring-Wide Capture", step 5: READ_COUNTERS first 0, count 4. -/
theorem test_read_counters :
    let s := station.withCb (after (.deferredCapture (plainBits 60)) captureStation).cb
    replyOf (after (.readCounters (frameOf 0 1 11 [0, 4])) s)
      = some (.ok, [7, 1, 60, 0, 3, 0, 0, 0, 0, 0, 0]) := by decide +kernel

/-- The queue: the front command is executed with the rest waiting, and an empty queue idles (log entry 6). -/
theorem test_queue : step (State.reset.withPending [.trunkLineHigh, .hardResetEnd]) = .next (ready.withPending [.hardResetEnd])
    ∧ step State.reset = .next State.reset := ⟨rfl, rfl⟩

/-! ### For each statement with hypotheses, a state and operands that meet them -/

theorem test_meets_StepTakesTheFront : State.reset.pending = [] := rfl

theorem test_meets_HardResetBegins : State.reset.inReset = false ∧ (State.reset.withInReset true).inReset = true := ⟨rfl, rfl⟩

theorem test_meets_HardResetEnds : station.inReset = false ∧ (station.withInReset true).inReset = true := ⟨rfl, rfl⟩

/-- One undamaged character for each class of R4. -/
theorem test_meets_TrunkCharactersAreFormedAndRead :
    (∀ v : Byte, v ∈ [0x3C, 0x3D, 0x51, 0x5E, 0x00, 0x99] → classify (formTrunk { mark := true, data := v }) ≠ .damaged)
    ∧ classify (plainBits 0x3C) ≠ .damaged ∧ (plainBits 0x3C).mark = false
    ∧ classify (formTrunk { mark := true, data := 0x99 }) = .stray 0x99 := by decide

/-- A record of each parity; 42h has two 1s. -/
theorem test_meets_BranchFormatAgrees : 6 < (if BranchConfig.default.sevenBits then 7 else 8)
    ∧ (List.range (if BranchConfig.default.sevenBits then 7 else 8)).countP (0x42 : Byte).getLsbD = 2
    ∧ ∀ p : BranchParity, ({ BranchConfig.default with parity := p } : BranchConfig).parity = p :=
  ⟨by decide, by decide, fun _ => rfl⟩

/-- A receiver that can take a character and two that can't; the loss of lock comes about at a part one miss from the
limit, and not at a sync code. -/
theorem test_meets_EveryCharacterIsAnswered : trunkReady ready ∧ ¬ trunkReady State.reset
    ∧ ¬ trunkReady (ready.withInReset true)
    ∧ (let s := (locked .header0).withCt { (locked .header0).ct with missCount := 1 }
       LosesLock (plainBits 0x77) s ∧ ¬ LosesLock (formTrunk syncOut) s) := by decide +kernel

theorem test_meets_UnlockedPartIsTransparent : trunkReady ready ∧ ready.ct.lock ≠ .locked := by decide

theorem test_meets_LinesMoveBetweenCharacters : holdBranch.bu[(3 : BranchNo)].line = .receiving
    ∧ holdBranch.bu[(0 : BranchNo)].line = .waitHigh := by decide

/-- Each clause: a good character with room, one at a full queue and one in HOLD, a bad one under DISCARD and under
HOLD, and a transmitter with and without a byte queued. -/
theorem test_meets_BranchCharactersComeAndGo :
    let full := holdBranch.withBranch 3 { holdBranch.bu[3] with insertQueue := List.replicate 32 0x11 }
    let held := holdBranch.withBranch 3 { holdBranch.bu[3] with receiver := .hold }
    let plain := holdBranch.withBranch 3 { holdBranch.bu[3] with config := { holdBranch.bu[3].config with policy := .discard } }
    let last := ready.withBranch 3 { freshBranch with sending := some 0x11 }
    (∀ s ∈ [holdBranch, full, held, plain], s.inReset = false ∧ s.bu[(3 : BranchNo)].enabled = true
        ∧ s.bu[(3 : BranchNo)].line = .receiving)
      ∧ branchValue holdBranch.bu[(3 : BranchNo)].config { data := 0x42, parity := false, stop := true } = some 0x42
      ∧ branchValue holdBranch.bu[(3 : BranchNo)].config { data := 0x43, parity := false, stop := true } = none
      ∧ holdBranch.bu[(3 : BranchNo)].insertQueue.length < 32 ∧ 32 ≤ full.bu[(3 : BranchNo)].insertQueue.length
      ∧ held.bu[(3 : BranchNo)].receiver = .hold ∧ plain.bu[(3 : BranchNo)].config.policy = .discard
      ∧ holdBranch.bu[(3 : BranchNo)].receiver = .run ∧ holdBranch.bu[(3 : BranchNo)].config.policy = .hold
      ∧ last.inReset = false ∧ last.bu[(3 : BranchNo)].enabled = true ∧ last.bu[(3 : BranchNo)].sending.isSome = true
      ∧ last.bu[(3 : BranchNo)].dropQueue = []
      ∧ fullDrop.bu[(0 : BranchNo)].dropQueue = 0x11 :: List.replicate 31 0x11
      ∧ fullDrop.inReset = false ∧ fullDrop.bu[(0 : BranchNo)].enabled = true
      ∧ fullDrop.bu[(0 : BranchNo)].sending.isSome = true := by decide +kernel

/-- The premises in HUNT and at each position of CONFIRM, the number at header position 1 one short of the confirm
count. -/
theorem test_meets_HuntAndConfirm :
    ∀ s ∈ [ready, confirming 0 .awaitingNumber, confirming 1 .header0, confirming 1 .header1, confirming 1 (.slot 15)],
      trunkReady s ∧ s.ct.lock ≠ .locked ∧ s.ct.reference = (if s.ct.lock = .hunt then none else some 42)
      ∧ s.ct.tally + 1 < s.me.node.confirmCount.toNat
      ∧ s.ct.fallbackCount + 1 < 256 * s.me.node.fallbackThreshold.toNat := by decide +kernel

theorem test_meets_LockIsGained :
    (trunkReady (confirming 2 .header1) ∧ (confirming 2 .header1).ct.lock = .confirm
      ∧ (confirming 2 .header1).ct.position = .header1 ∧ classify (plainBits 42) = .plain 42
      ∧ (confirming 2 .header1).ct.reference = some 42
      ∧ (confirming 2 .header1).me.node.confirmCount.toNat ≤ (confirming 2 .header1).ct.tally + 1)
    ∧ Quiet 42 (confirming 2 .header1) := ⟨by decide +kernel, ⟨by decide, by decide, by decide⟩⟩

/-- A part one miss from the limit, and the switch in each state. -/
def missing (w : SwitchState) : State :=
  let s := (locked .header0).withCt { (locked .header0).ct with missCount := 1 }
  s.withMu { s.mu with switch := { SwitchRecord.reset with state := w } }

theorem test_meets_LockIsLost :
    ∀ w ∈ [SwitchState.idle, .armed, .guarding], trunkReady (missing w) ∧ (missing w).ct.lock = .locked
      ∧ (missing w).ct.position = .header0 ∧ ¬ isSyncCode (plainBits 0x77)
      ∧ (missing w).me.node.missLimit.toNat ≤ (missing w).ct.missCount + 1
      ∧ ¬((missing w).sp.parser ≠ .idle ∧ (missing w).sp.executed = true ∧ (missing w).me.deferredRestart = true)
      ∧ (missing w).mu.switch.state = w ∧ (missing w).cb.deferred.armed = false
      ∧ (missing w).sp.parser = .idle := by decide +kernel

theorem test_meets_HeaderSyncIsSentOrRegenerated :
    trunkReady (locked .header0) ∧ (locked .header0).ct.lock = .locked ∧ (locked .header0).ct.position = .header0
      ∧ isSyncCode (formTrunk syncAOut) ∧ ¬ isSyncCode (plainBits 0x77)
      ∧ (locked .header0).ct.missCount + 1 < (locked .header0).me.node.missLimit.toNat := by decide +kernel

/-- LOCKED at header position 1, coasting. -/
def coasting : State := (locked .header1).withCt { (locked .header1).ct with coasting := true }

/-- LOCKED at header position 1 of cycle 42 with work in flight for cycle 43: the switch in a state, and the capture. -/
def waiting (w : SwitchState) : State :=
  let s := locked .header1
  let s := s.withMu { s.mu with switch := { SwitchRecord.reset with state := w, cycle := 43, guardEnd := 43 } }
  s.withCb { s.cb with deferred := { armed := true, cycle := 43 } }

/-- R69, R71, R77, R167: the header of cycle 42 leaves a switch and a capture for cycle 43 in flight. -/
theorem test_header_leaves_work_in_flight : ∀ w ∈ [SwitchState.idle, .armed, .guarding],
    (after (.trunkCharacterReceived (plainBits 42)) (waiting w)).mu.switch.state = w
    ∧ (after (.trunkCharacterReceived (plainBits 42)) (waiting w)).cb.deferred = { armed := true, cycle := 43 } := by
  decide +kernel

/-- With nothing in flight, with the switch in each state and a capture ARMED for another cycle, and while coasting; and
the jump to 43. -/
theorem test_meets_HeaderNumberIsAdopted :
    (∀ w, Quiet 42 (waiting w) ∧ ExpectedHeader 42 (plainBits 42) (waiting w) ∧ (waiting w).mu.switch.state = w
      ∧ (waiting w).cb.deferred.armed = true)
    ∧ Quiet 43 (locked .header1) ∧ (locked .header1).mu.switch.state = .idle
    ∧ (locked .header1).cb.deferred.armed = false ∧ Quiet 42 (locked .header1)
    ∧ ExpectedHeader 42 (plainBits 42) (locked .header1) ∧ JumpHeader 43 (plainBits 43) (locked .header1) ∧ Quiet 42 coasting
    ∧ ExpectedHeader 42 (plainBits 43) coasting :=
  ⟨fun w => ⟨⟨⟨fun _ => show (43 : Byte) ≠ 42 by decide, fun _ => show (43 : Byte) ≠ 42 by decide⟩,
       fun _ => show (43 : Byte) ≠ 42 by decide, fun h => by cases h⟩,
     ⟨⟨rfl, rfl⟩, rfl, rfl, rfl, .inr fun v h => by
       have h' : TrunkChar.plain 42 = .plain v := h
       injection h' with h'
       exact h'.symm⟩, rfl, rfl⟩,
   ⟨by decide, by decide, by decide⟩, rfl, rfl, ⟨by decide, by decide, by decide⟩,
   ⟨by decide, by decide, by decide, by decide, .inr fun v h => by
     have h' : TrunkChar.plain 42 = .plain v := h
     injection h' with h'
     exact h'.symm⟩,
   ⟨by decide, by decide, by decide, ⟨41, rfl, by decide⟩, by decide, by decide⟩, ⟨by decide, by decide, by decide⟩,
   ⟨by decide, by decide, by decide, by decide, .inl rfl⟩⟩

/-- The switch GUARDING from cycle 41 with guard length 2, and the session open. -/
def guardingFrom (w : SwitchState) (count : Nat) : State :=
  let s := (locked .header1).withMe { station.me with inactivity := count }
  s.withMu { s.mu with switch := { SwitchRecord.reset with state := w, cycle := 41, guardLength := 2, guardEnd := 43 } }

/-- The jump to 43, at distance 2, and the one to 41 (a header that repeats), at distance 0; both with the count short
of expiry and at it. -/
theorem test_meets_CycleJumpEndsWorkInFlight :
    (∀ w c, JumpHeader 43 (plainBits 43) (guardingFrom w c) ∧ JumpHeader 41 (plainBits 41) (guardingFrom w c)
        ∧ (guardingFrom w c).mu.switch.state = w)
    ∧ (43 - (guardingFrom .guarding 0).mu.switch.cycle).toNat = 2
    ∧ (41 - (guardingFrom .guarding 0).mu.switch.cycle).toNat < (guardingFrom .guarding 0).mu.switch.guardLength.toNat
    ∧ (guardingFrom .idle 254).me.session = some { owner := 1, tag := 1 }
    ∧ (guardingFrom .idle 254).me.inactivity + 1 < 16 * (guardingFrom .idle 254).me.node.sessionTimeout.toNat
    ∧ 16 * (guardingFrom .idle 255).me.node.sessionTimeout.toNat ≤ (guardingFrom .idle 255).me.inactivity + 1
    ∧ JumpHeader 70 (plainBits 70) captureStation ∧ captureStation.cb.deferred.armed = true :=
  ⟨fun _ _ => ⟨⟨⟨rfl, rfl⟩, rfl, rfl, ⟨41, rfl, by decide⟩, rfl, by decide⟩,
    ⟨⟨rfl, rfl⟩, rfl, rfl, ⟨41, rfl, by decide⟩, rfl, by decide⟩, rfl⟩, by decide, by decide, by decide, by decide, by decide,
   ⟨⟨rfl, rfl⟩, rfl, rfl, ⟨59, rfl, by decide⟩, rfl, by decide⟩, rfl⟩

theorem test_meets_FallbackRevertsTheMaps : trunkReady nearFallback ∧ nearFallback.ct.lock ≠ .locked
    ∧ nearFallback.ct.lock ≠ .confirm ∧ nearFallback.me.node.fallbackThreshold ≠ 0
    ∧ 256 * nearFallback.me.node.fallbackThreshold.toNat ≤ nearFallback.ct.fallbackCount + 1
    ∧ nearFallback.mu.live ≠ SlotMap.bootstrap
    ∧ (nearFallback.withMu MapUnit.reset).mu.live = SlotMap.bootstrap := by decide +kernel

/-- The header that gains lock, an expected header and a jump, each with the session one count short of its end. -/
theorem test_meets_SessionExpires :
    (let s := (confirming 2 .header1).withMe { station.me with inactivity := 255 }
     trunkReady s ∧ GainsLock 42 (plainBits 42) s ∧ s.me.session = some { owner := 1, tag := 1 }
      ∧ 16 * s.me.node.sessionTimeout.toNat ≤ s.me.inactivity + 1 ∧ SwitchWaits 42 s.mu.switch
      ∧ CaptureWaits 42 s.cb.deferred)
    ∧ ExpectedHeader 42 (plainBits 42) nearExpiry ∧ JumpHeader 43 (plainBits 43) nearExpiry
    ∧ nearExpiry.me.session = some { owner := 1, tag := 1 }
    ∧ 16 * nearExpiry.me.node.sessionTimeout.toNat ≤ nearExpiry.me.inactivity + 1
    ∧ nearExpiry.mu.switch.state = .idle ∧ nearExpiry.cb.deferred.armed = false :=
  ⟨by decide +kernel, ⟨by decide, by decide, by decide, by decide, .inr fun v h => by
     have h' : TrunkChar.plain 42 = .plain v := h
     injection h' with h'
     exact h'.symm⟩,
   ⟨by decide, by decide, by decide, ⟨41, rfl, by decide⟩, by decide, by decide⟩, by decide, by decide, by decide, by decide⟩

/-- The armed example of spec/05 at the header of cycle 200; and with guard length 0, where no index is guarded. -/
theorem test_meets_SwitchFires :
    trunkReady partialArmed ∧ partialArmed.ct.lock = .locked ∧ partialArmed.ct.position = .header1
      ∧ partialArmed.ct.cycle = some (200 - 1) ∧ partialArmed.ct.coasting = false
      ∧ classify (plainBits 200) = .plain 200 ∧ partialArmed.mu.switch.state = .armed
      ∧ partialArmed.mu.switch.cycle = 200
      ∧ guardedCount partialArmed.mu partialArmed.mu.switch.groups partialArmed.mu.switch.guardLength = 3
      ∧ guardedCount partialArmed.mu partialArmed.mu.switch.groups 0 = 0 := by decide +kernel

theorem test_meets_GuardEnds :
    trunkReady partialGuarding ∧ partialGuarding.ct.lock = .locked ∧ partialGuarding.ct.position = .header1
      ∧ partialGuarding.ct.cycle = some (202 - 1) ∧ classify (plainBits 202) = .plain 202
      ∧ partialGuarding.mu.switch.state = .guarding ∧ partialGuarding.mu.switch.guardEnd = 202
      ∧ partialGuarding.cb.deferred.armed = false
      ∧ partialGuarding.me.inactivity + 1 < 16 * partialGuarding.me.node.sessionTimeout.toNat := by decide +kernel

theorem test_meets_DeferredCaptureIsTaken :
    trunkReady captureStation ∧ captureStation.ct.lock = .locked ∧ captureStation.ct.position = .header1
      ∧ captureStation.ct.cycle = some (60 - 1) ∧ classify (plainBits 60) = .plain 60
      ∧ captureStation.cb.deferred.armed = true ∧ captureStation.cb.deferred.cycle = 60
      ∧ captureStation.me.session.isSome = false ∧ captureStation.mu.switch.state = .idle := by decide +kernel

/-- The entry at slot 1 of the small map. -/
theorem test_slot1_entry (e : Entry) : (mapOf [(0, .service), (1, e), (8, .service)]).entries[(1 : SlotIx)] = e := by
  simp [mapOf]

/-- Slot 1 of a locked part, with any entry there. -/
theorem test_atSlot1 (e : Entry) : AtSlot 1 e (atSlot1 e) := ⟨⟨rfl, rfl⟩, rfl, rfl, test_slot1_entry e⟩

theorem test_meets_SlotsWithoutABranch : AtSlot 1 .pass (atSlot1 .pass) ∧ AtSlot 1 .guard (atSlot1 .guard)
    ∧ AtSlot 1 .service (atSlot1 .service) ∧ AtSlot 1 (.tap 2) (atSlot1 (.tap 2))
    ∧ (atSlot1 (.tap 2)).bu[(2 : BranchNo)].enabled = false ∧ classify (plainBits 0x10) = .plain 0x10 :=
  ⟨test_atSlot1 _, test_atSlot1 _, test_atSlot1 _, test_atSlot1 _, by decide, by decide⟩

/-- An INSERT slot of branch 0 on each side. -/
def inserting (side : InsertSide) (q : List Byte) : State :=
  (atSlot1 (.insert 0)).withBranch 0 { freshBranch with side := side, insertQueue := q }

theorem test_meets_InsertSlotTakesTheOldestByte (side : InsertSide) (q : List Byte) :
    AtSlot 1 (.insert 0) (inserting side q) ∧ (inserting side q).bu[(0 : BranchNo)].enabled = true
      ∧ (inserting side q).bu[(0 : BranchNo)].side = side ∧ (inserting side q).bu[(0 : BranchNo)].insertQueue = q :=
  ⟨⟨⟨rfl, rfl⟩, rfl, rfl, test_slot1_entry _⟩, rfl, rfl, rfl⟩

theorem test_meets_DropAndTapSlotsPush : AtSlot 1 (.drop 0) fullDrop ∧ fullDrop.bu[(0 : BranchNo)].enabled = true
    ∧ 32 ≤ fullDrop.bu[(0 : BranchNo)].dropQueue.length
    ∧ AtSlot 1 (.tap 0) ((atSlot1 (.tap 0)).withBranch 0 { freshBranch with dropQueue := List.replicate 31 0, sending := some 0 })
    ∧ AtSlot 1 (.drop 0) ((atSlot1 (.drop 0)).withBranch 0 freshBranch) ∧ freshBranch.enabled = true
    ∧ freshBranch.dropQueue = [] ∧ freshBranch.sending = none
    ∧ usable (classify (formTrunk sidleOut)) = none ∧ classify (plainBits 0x20) = .plain 0x20 :=
  ⟨⟨⟨rfl, rfl⟩, rfl, rfl, test_slot1_entry _⟩, rfl, by decide, ⟨⟨rfl, rfl⟩, rfl, rfl, test_slot1_entry _⟩, ⟨⟨rfl, rfl⟩, rfl, rfl, test_slot1_entry _⟩, rfl, rfl, rfl,
   by decide, by decide⟩

theorem test_meets_ExchangeMakesBothHalves : AtSlot 1 (.exchange 0) (atSlot1 (.exchange 0)) := test_atSlot1 _

theorem test_meets_TestSlotGeneratesAndChecks : AtSlot 1 .test (atSlot1 .test) ∧ (atSlot1 .test).pu.checker = .off
    ∧ AtSlot 1 .test ((atSlot1 .test).withPu (toSeek PatternUnit.reset))
    ∧ ((atSlot1 .test).withPu (toSeek PatternUnit.reset)).pu.checker = .seek
    ∧ AtSlot 1 .test (checking 5 0 0 []) ∧ (checking 5 0 0 []).pu.checkerRegister = some (.count 9)
    ∧ windowMismatches (slideWindow (checking 5 0 0 []).pu.window false) ≠ (checking 5 0 0 []).pu.config.threshold
    ∧ satInc (checking 5 0 0 []).pu.checked ≠ (checking 5 0 0 []).pu.runLength.elements :=
  ⟨test_atSlot1 _, rfl, ⟨⟨rfl, rfl⟩, rfl, rfl, test_slot1_entry _⟩, rfl, ⟨⟨rfl, rfl⟩, rfl, rfl, test_slot1_entry _⟩, rfl, by decide, by decide⟩

/-- A seeking checker of each pattern with nothing held, and with each thing that it may hold. -/
theorem test_meets_CheckerLocksOnItsPattern (p : Pattern) :
    let u := toSeek { PatternUnit.reset with config := { PatternUnit.reset.config with checkerOn := true, checkerPattern := p } }
    u.checker = .seek ∧ u.progress = .empty ∧ u.config.checkerPattern = p ∧ (1 : BitVec 9) ≠ 0 ∧ (1 : BitVec 15) ≠ 0
      ∧ (0x1234 : Word16) = (0x12 : Byte) ++ (0x34 : Byte) ∧ (0x34 : Byte) ≠ 0x12
      ∧ ((0x02 : Byte) ++ (0x00 : Byte)).extractLsb' 0 9 = 0 ∧ ((0x02 : Byte) ++ (0x00 : Byte)).extractLsb' 0 15 ≠ 0
      ∧ ∀ (g : SeekProgress) (r : PatternRegister), let q := { u with progress := g, checkerRegister := some r }
        q.checker = .seek ∧ q.progress = g ∧ q.checkerRegister = some r :=
  ⟨rfl, rfl, rfl, by decide, by decide, by decide, by decide, by decide, by decide, fun _ _ => ⟨rfl, rfl, rfl⟩⟩

/-- A mismatch that is the fourth of the window; and a match under a threshold lowered to 2 over a window of three, the
oldest of which leaves. -/
theorem test_meets_CheckerResyncs :
    let s := checking 153 6 0 [false, false, false, false, true, true, true]
    let l := checking 153 6 0 [true, false, false, false, false, false, true, true]
    let m := l.withPu { l.pu with config := { l.pu.config with threshold := 2 } }
    (AtSlot 1 .test m ∧ m.pu.checker = .locked ∧ m.pu.checkerRegister = some (.count 9)
      ∧ usable (classify (plainBits 9)) = some (nextByte m.pu.config.word (.count 9)).1
      ∧ windowMismatches (slideWindow m.pu.window false) = m.pu.config.threshold) ∧
    AtSlot 1 .test s ∧ s.pu.checker = .locked ∧ s.pu.checkerRegister = some (.count 9)
      ∧ usable (classify (plainBits 0xFF)) ≠ some (nextByte s.pu.config.word (.count 9)).1
      ∧ windowMismatches (slideWindow s.pu.window true) = s.pu.config.threshold
      ∧ ¬(s.pu.mode = .timed ∧ satInc s.pu.checked = s.pu.runLength.elements) :=
  ⟨⟨⟨⟨rfl, rfl⟩, rfl, rfl, test_slot1_entry _⟩, rfl, rfl, by decide, by decide⟩,
   ⟨⟨rfl, rfl⟩, rfl, rfl, test_slot1_entry _⟩, rfl, rfl, by decide, by decide, by decide⟩

/-- A match, and a mismatch that is the fourth of the window, as the 256th element. -/
theorem test_meets_TimedRunCompletes :
    usable (classify (plainBits 9)) = some (nextByte 0 (.count 9)).1
    ∧ usable (classify (plainBits 0xFF)) ≠ some (nextByte 0 (.count 9)).1
    ∧ windowMismatches (slideWindow [] false) ≠ (checking 255 7 1 []).pu.config.threshold
    ∧ windowMismatches (slideWindow [true, true, true] true) = (checking 255 7 1 [true, true, true]).pu.config.threshold
    ∧ AtSlot 1 .test (checking 255 7 1 []) ∧ (checking 255 7 1 []).pu.checker = .locked
    ∧ (checking 255 7 1 []).pu.checkerRegister = some (.count 9) ∧ (checking 255 7 1 []).pu.run = .running
    ∧ (checking 255 7 1 []).pu.mode = .timed ∧ (checking 255 7 1 []).pu.checked.toNat + 1 = 256
    ∧ (checking 255 7 1 []).pu.runLength = .len256 :=
  ⟨by decide, by decide, by decide, by decide, ⟨⟨rfl, rfl⟩, rfl, rfl, test_slot1_entry _⟩, rfl, rfl, rfl, rfl, rfl, rfl⟩

/-- Lists of 14, 15 and 16 entries, the last ending in an OVERFLOW record. -/
theorem test_meets_EventPosted :
    let e : EventRecord := { sequence := 0, kind := .lockGained, cycle := none, detail := [] }
    let o : EventRecord := { e with kind := .overflow, detail := [0xFF] }
    (List.replicate 14 e).length ≤ 14 ∧ (List.replicate 15 e).length = 15 ∧ o.kind = .overflow ∧ o.detail = [0xFF] := by
  decide

/-- At slot 1, a SERVICE slot, with the frame in passage given. -/
def passing (c : FrameContext) : State := (atSlot1 .service).withSp c

theorem test_passing (c : FrameContext) : AtSlot 1 .service (passing c) := ⟨⟨rfl, rfl⟩, rfl, rfl, test_slot1_entry _⟩

/-- A frame whose second request check character is due, the part in a role. -/
def checkDue (r : Role) : State :=
  passing { FrameContext.reset with parser := .reqCheck, place := 1, role := r, checkHigh := some 0xFF }

/-- Between frames, in a frame that executed nothing and at its END, in one that executed a RESTART with nothing
behind, and a failed check in each role that has one; and a character of each class. -/
theorem test_meets_FsBeginsAFrame : AtSlot 1 .service (atSlot1 .service) ∧ (atSlot1 .service).sp.parser = .idle
    ∧ (∀ p : ParserState, AtSlot 1 .service (passing { FrameContext.reset with parser := p })
        ∧ (passing { FrameContext.reset with parser := p }).sp.executed = false)
    ∧ (∀ r : Role, AtSlot 1 .service (checkDue r) ∧ (checkDue r).sp.role = r ∧ (checkDue r).sp.place = 1
        ∧ (checkDue r).sp.runningCheck ≠ (checkDue r).sp.checkHigh.getD 0 ++ (0 : Byte))
    ∧ (∀ p ∈ [(0x51, TrunkChar.fs), (0x5E, .fe), (0x00, .sidle), (0x3C, .sync), (0x99, .stray 0x99)],
        classify (formTrunk { mark := true, data := p.1 }) = p.2)
    ∧ classify { data := 0, mark := false, parity := true, stop := false } = .damaged
    ∧ restarting.sp.parser ≠ .idle ∧ restarting.sp.executed = true ∧ restarting.me.deferredRestart = true
    ∧ NoneBehind restarting :=
  ⟨test_atSlot1 _, rfl, fun _ => ⟨test_passing _, rfl⟩, fun r => ⟨test_passing _, rfl, rfl, by cases r <;> decide⟩, by decide, by decide,
   by decide, rfl, rfl, fun _ _ _ h => (by cases h)⟩

/-- A frame the station takes, one of Room 33 and one of 33 parameters; the sequence of sent characters exists. -/
theorem test_meets_FrameOnTheLineIsTheRequest : station.inReset = false ∧ station.ct.lock = .locked
    ∧ (frameOf 1 1 32 (List.replicate 32 7)).params.length ≤ 255 ∧ (frameOf 1 1 33 []).wellFormed = false
    ∧ (frameOf 1 1 0 (List.replicate 33 7)).params.length ≤ 255
    ∧ decideRole 5 0x05 0 station.me.address = .taker ∧ decideRole 6 0x05 0 station.me.address = .bystander
    ∧ ∃ outs : List TrunkChar → State → List OutChar, (∀ t, outs [] t = [])
        ∧ ∀ c cs t, outs (c :: cs) t = (serviceElement c [] t).1 :: outs cs (serviceElement c [] t).2 :=
  ⟨by decide, by decide, by decide, by decide, by decide, by decide, by decide,
   fun l => l.rec (fun _ => []) fun c _ k t => (serviceElement c [] t).1 :: k (serviceElement c [] t).2,
   fun _ => rfl, fun _ _ _ => rfl⟩

/-- A station in TURN that holds a reply of two data bytes, and a frame of that Room. -/
theorem test_meets_ReplySectionIsWritten :
    let p := formReply 2 { status := .ok, data := [7, 9] }
    let s := station.withSp { FrameContext.reset with parser := .turn, role := .taker, room := some 2, pendingReply := some p }
    s.sp.parser = .turn ∧ s.sp.place = 0 ∧ s.sp.role = .taker ∧ s.sp.pendingReply = some p
      ∧ p.data.length = roomOf s.sp ∧ [(0 : Byte), 0].length = 2 ∧ (List.replicate 6 (0 : Byte)).length = roomOf s.sp + 4
      ∧ (s.withSp { s.sp with role := .bystander }).sp.role = .bystander :=
  ⟨rfl, rfl, rfl, rfl, rfl, rfl, rfl, rfl⟩

/-! A frame to address 5 is taken by the station, and its session lets it pass. -/

/-- A well-formed frame to the station's address, with Claim FREE, is taken whatever its Code. -/
theorem test_taken (code : Byte) {f : ReqFrame} (hw : f.wellFormed = true) (hd : f.destination = 5)
    (hc : f.claim = 0) : TakesFrame code f station :=
  ⟨rfl, rfl, hw, by rw [hd, hc]; rfl⟩

/-- A frame under tag 1 passes the session part of the gate at the station. -/
theorem test_passes {f : ReqFrame} (hs : f.session = 1) : PassesSession f (atFs station).me :=
  ⟨by rw [hs]; rfl, by rw [hs]; decide, fun h => by cases h⟩

/-- A part that is not LOCKED; and at the station a frame to another address, to all, and already CLAIMED; a Code that
names no request; and frames of Room 33 and of 33 parameters. -/
theorem test_meets_OthersExecuteNothing :
    (∀ q : ReqName, q.code ≠ 0x7F) ∧ 32 < (frameOf 1 1 33 []).room.toNat
    ∧ 32 < (frameOf 1 1 32 (List.replicate 33 0)).params.length ∧ station.inReset = false ∧ station.ct.lock = .locked ∧
    (Instr.keep (frameOf 1 1 0 [])).request = some (.keep, frameOf 1 1 0 []) ∧ (Instr.keep (frameOf 1 1 0 [])).inRow = true
    ∧ ready.ct.lock ≠ .locked
    ∧ MeetsFrame .bystander 0x05 { frameOf 1 1 0 [] with destination := 6 } station
    ∧ MeetsFrame .broadcast 0x05 { frameOf 1 1 0 [] with destination := 255 } station
    ∧ MeetsFrame .duplicate 0x05 { frameOf 1 1 0 [] with claim := 0xC1 } station :=
  ⟨fun q => by cases q <;> decide, by decide, by decide, rfl, rfl, rfl, rfl, by decide, ⟨rfl, rfl, rfl, rfl⟩,
   ⟨rfl, rfl, rfl, rfl⟩, ⟨rfl, rfl, rfl, rfl⟩⟩

/-- Session 0, tag 2 which is not open, and the last Sequence with the cache valid. -/
theorem test_meets_SessionGuardsSessionedRequests : TakesFrame 0x05 (frameOf 0 1 0 []) station
    ∧ (atFs station).me.session.map Session.tag ≠ some 0 ∧ (atFs station).me.session.map Session.tag ≠ some 2
    ∧ ReqName.keep.sessioned 5 = true
    ∧ (let s := station.withMe { station.me with lastSequence := some 3, cache := some (bare .ok) }
       TakesFrame 0x05 (frameOf 1 3 0 []) s ∧ (atFs s).me.session.map Session.tag = some 1
        ∧ (atFs s).me.lastSequence = some 3 ∧ (atFs s).me.cache = some (bare .ok)) :=
  ⟨test_taken _ rfl rfl rfl, by decide, by decide, rfl, ⟨rfl, rfl, rfl, rfl⟩, rfl, rfl, rfl⟩

/-- A Code that names no request; a DISARM of Room 4, which needs 5; and a MAP_LENGTH of 121. -/
theorem test_meets_GateRefuses : (∀ q : ReqName, q.code ≠ 0x7F) ∧ TakesFrame 0x7F (frameOf 1 1 0 []) station
    ∧ (Instr.disarm (frameOf 1 1 4 [])).request = some (.disarm, frameOf 1 1 4 [])
    ∧ TakesFrame 0x19 (frameOf 1 1 4 []) station ∧ PassesSession (frameOf 1 1 4 []) (atFs station).me
    ∧ (4 : Nat) < roomNeeded .disarm (frameRequest 0x19 (frameOf 1 1 4 []) .taker)
    ∧ TakesFrame 0x12 (frameOf 1 1 0 [121]) station
    ∧ paramsOk .mapLength (frameRequest 0x12 (frameOf 1 1 0 [121]) .taker) = false
    ∧ paramsOk .mapLength (frameRequest 0x12 (frameOf 1 1 0 [120]) .taker) = true :=
  ⟨fun q => by cases q <;> decide, test_taken _ rfl rfl rfl, rfl, test_taken _ rfl rfl rfl, test_passes rfl, by decide,
   test_taken _ rfl rfl rfl, by decide, by decide⟩

/-- `restarting` with a switch in a state, at a position, and the commands that wait behind. -/
def restartingBehind (w : SwitchState) (p : Position) (behind : List Instr) : State :=
  let s := restarting.withMu { restarting.mu with switch := { restarting.mu.switch with state := w } }
  let s := s.withBranch 3 { holdBranch.bu[3] with receiver := .hold }
  ((s.withCt { s.ct with position := p, missCount := 1 }).withPending behind)

/-- At FE in END; at SIDLE in TURN, an abort; with a branch character behind and with none; and at the header where lock
is lost; the switch in each state. -/
theorem test_meets_RestartIsCarriedOut :
    (∀ w, ∀ q ∈ [[], [Instr.branchCharacterComplete 3 ⟨0x42, false, true⟩]],
      AtSlot 0 .service (restartingBehind w (.slot 0) q) ∧ (restartingBehind w (.slot 0) q).sp.parser = .finish
      ∧ (restartingBehind w (.slot 0) q).mu.switch.state = w ∧ (restartingBehind w (.slot 0) q).pending = q
      ∧ (restartingBehind w (.slot 0) q).bu[(3 : BranchNo)].line = .receiving
      ∧ (restartingBehind w (.slot 0) q).bu[(3 : BranchNo)].enabled = true
      ∧ trunkReady (restartingBehind w .header0 q) ∧ LosesLock (plainBits 0x77) (restartingBehind w .header0 q))
    ∧ (∀ w p, NoneBehind (restartingBehind w p [])) ∧ AtSlot 0 .service restarting ∧ restarting.sp.executed = true
    ∧ restarting.me.deferredRestart = true ∧ restarting.sp.parser = .finish
    ∧ classify (formTrunk { mark := true, data := 0x5E }) = .fe
    ∧ (restarting.withSp { restarting.sp with parser := .turn }).sp.parser ≠ .idle
    ∧ classify (formTrunk sidleOut) = .sidle ∧ restarting.mu.switch.state = .armed :=
  ⟨fun _ _ _ => ⟨⟨⟨rfl, rfl⟩, rfl, rfl, rfl⟩, rfl, rfl, rfl, rfl, rfl, ⟨rfl, rfl⟩, rfl, rfl,
     show ¬ isSyncCode (plainBits 0x77) by decide, show 2 ≤ 2 by decide⟩, fun _ _ _ _ _ h => (by cases h),
   ⟨⟨rfl, rfl⟩, rfl, rfl, rfl⟩, rfl, rfl, rfl, by decide, by decide, by decide, rfl⟩

theorem test_meets_IdentifyAndNodeGetReply : TakesFrame 0x01 (frameOf 0 1 10 []) station
    ∧ TakesFrame 0x06 (frameOf 0 1 8 []) station ∧ (frameOf 0 1 8 []).params = [] :=
  ⟨test_taken _ rfl rfl rfl, test_taken _ rfl rfl rfl, rfl⟩

theorem test_meets_AssignSetsTheAddress : TakesFrame 0x02 { frameOf 0 1 0 [239] with destination := 0 } (locked .header0)
    ∧ TakesFrame 0x02 (frameOf 1 1 0 [1]) station ∧ PassesSession (frameOf 1 1 0 [1]) (atFs station).me :=
  ⟨⟨rfl, rfl, rfl, rfl⟩, test_taken _ rfl rfl rfl, test_passes rfl⟩

/-- The owner's OPEN, another controller's, and one of a CLOSED session. -/
theorem test_meets_OpenIssuesATag : TakesFrame 0x03 (frameOf 0 1 1 []) station
    ∧ (∀ k, (atFs station).me.session = some k → k.owner = 1) ∧ (atFs station).me.session = some { owner := 1, tag := 1 }
    ∧ TakesFrame 0x03 { frameOf 0 1 1 [] with controller := 15 } station
    ∧ (atFs (station.withMe (closed station.me))).me.session = none :=
  ⟨test_taken _ rfl rfl rfl, fun k h => by cases h; rfl, rfl, test_taken _ rfl rfl rfl, rfl⟩

theorem test_meets_CloseAndKeepTheSession : TakesFrame 0x04 (frameOf 1 1 0 []) station
    ∧ TakesFrame 0x05 (frameOf 1 1 0 []) station ∧ PassesSession (frameOf 1 1 0 []) (atFs station).me :=
  ⟨test_taken _ rfl rfl rfl, test_taken _ rfl rfl rfl, test_passes rfl⟩

theorem test_meets_NodeSetAndRestartExecute : TakesFrame 0x07 (frameOf 1 1 0 [0x55, 7, 1, 2, 7, 0, 0, 1]) station
    ∧ PassesSession (frameOf 1 1 0 [0x55, 7, 1, 2, 7, 0, 0, 1]) (atFs station).me
    ∧ nodeSettingsOfBytes [0x55, 7, 1, 2, 7, 0, 0, 1] = some
        { fill := 0x55, guardLength := 7, sessionTimeout := 1, confirmCount := 2, missLimit := 7, fallbackThreshold := 0,
          attention := false, clearOnCapture := true }
    ∧ TakesFrame 0x08 (frameOf 1 1 0 []) station ∧ PassesSession (frameOf 1 1 0 []) (atFs station).me :=
  ⟨test_taken _ rfl rfl rfl, test_passes rfl, by decide, test_taken _ rfl rfl rfl, test_passes rfl⟩

theorem test_meets_MapReadAndCheckReply : TakesFrame 0x10 (frameOf 0 1 31 [1, 90, 30]) station
    ∧ TakesFrame 0x10 (frameOf 0 1 2 [0, 119, 1]) station ∧ TakesFrame 0x14 (frameOf 0 1 3 []) station
    ∧ TakesFrame 0x10 (frameOf 0 1 3 [0, 119, 2]) station ∧ TakesFrame 0x10 (frameOf 0 1 32 [1, 0, 31]) station
    ∧ TakesFrame 0x10 (frameOf 0 1 1 [0, 5]) station ∧ TakesFrame 0x14 (frameOf 0 1 3 [0]) station :=
  ⟨test_taken _ rfl rfl rfl, test_taken _ rfl rfl rfl, test_taken _ rfl rfl rfl, test_taken _ rfl rfl rfl,
   test_taken _ rfl rfl rfl, test_taken _ rfl rfl rfl, test_taken _ rfl rfl rfl⟩

/-- Index 119 and one entry, with the switch IDLE and with it ARMED. -/
theorem test_meets_MapWriteStoresEntries : TakesFrame 0x11 (frameOf 1 1 0 [119, 0x60]) station
    ∧ PassesSession (frameOf 1 1 0 [119, 0x60]) (atFs station).me
    ∧ (frameOf 1 1 0 [119, 0x60]).params = 119 :: [Entry.test].map Entry.byte ∧ (atFs station).mu.switch.state = .idle
    ∧ TakesFrame 0x11 (frameOf 7 2 0 [119, 0x60]) partialArmed ∧ PassesSession (frameOf 7 3 0 []) (atFs partialArmed).me
    ∧ (atFs partialArmed).mu.switch.state ≠ .idle :=
  ⟨test_taken _ rfl rfl rfl, test_passes rfl, rfl, rfl, ⟨by decide +kernel, by decide +kernel, by decide, by decide +kernel⟩,
   ⟨by decide +kernel, by decide, by decide +kernel⟩, by decide +kernel⟩

/-- Lengths 4 and 120 with the switch IDLE; ARMED stands in `partialArmed`. -/
theorem test_meets_MapLengthAndCopyWritePending : TakesFrame 0x12 (frameOf 1 1 0 [4]) station
    ∧ TakesFrame 0x12 (frameOf 1 1 0 [120]) station ∧ PassesSession (frameOf 1 1 0 [120]) (atFs station).me
    ∧ TakesFrame 0x13 (frameOf 1 1 0 []) station ∧ (atFs station).mu.switch.state = .idle
    ∧ (atFs partialArmed).mu.switch.state ≠ .idle
    ∧ TakesFrame 0x12 (frameOf 1 1 0 [121]) station ∧ TakesFrame 0x12 (frameOf 1 1 0 [3]) station
    ∧ TakesFrame 0x13 (frameOf 1 1 0 [0]) station ∧ (frameOf 1 1 0 [0]).params ≠ [] :=
  ⟨test_taken _ rfl rfl rfl, test_taken _ rfl rfl rfl, test_passes rfl, test_taken _ rfl rfl rfl, rfl, by decide +kernel,
   test_taken _ rfl rfl rfl, test_taken _ rfl rfl rfl, test_taken _ rfl rfl rfl, by decide⟩

theorem test_meets_ArmChecksAndArms : TakesFrame 0x18 partialArm partialStation
    ∧ PassesSession partialArm (atFs partialStation).me ∧ partialArm.params.take 2 = [(0x13 : BitVec 5).setWidth 8, 200]
    ∧ (atFs partialStation).ct.cycle = some 196 :=
  ⟨⟨by decide, by decide, by decide +kernel, by decide⟩, ⟨by decide, by decide, by decide⟩, by decide +kernel, by decide⟩

/-- The armed example, and a station whose switch is IDLE. -/
theorem test_meets_DisarmCancels : TakesFrame 0x19 (frameOf 7 2 5 []) partialArmed
    ∧ PassesSession (frameOf 7 2 5 []) (atFs partialArmed).me ∧ (atFs partialArmed).mu.switch.state = .armed
    ∧ TakesFrame 0x19 (frameOf 1 1 5 []) station ∧ PassesSession (frameOf 1 1 5 []) (atFs station).me
    ∧ TakesFrame 0x19 (frameOf 1 1 4 []) station ∧ PassesSession (frameOf 1 1 4 []) (atFs station).me
    ∧ TakesFrame 0x19 (frameOf 1 1 5 [0]) station ∧ PassesSession (frameOf 1 1 5 [0]) (atFs station).me :=
  ⟨⟨by decide +kernel, by decide +kernel, by decide, by decide +kernel⟩, ⟨by decide +kernel, by decide, by decide +kernel⟩,
   by decide +kernel, test_taken _ rfl rfl rfl, test_passes rfl, test_taken _ rfl rfl rfl, test_passes rfl,
   test_taken _ rfl rfl rfl, test_passes rfl⟩

theorem test_meets_SwitchAndTestStatusReply : TakesFrame 0x1A (frameOf 0 1 13 []) station
    ∧ TakesFrame 0x33 (frameOf 0 1 18 []) station ∧ TakesFrame 0x1A (frameOf 0 1 12 []) station
    ∧ TakesFrame 0x1A (frameOf 0 1 13 [0]) station ∧ TakesFrame 0x33 (frameOf 0 1 17 []) station
    ∧ TakesFrame 0x33 (frameOf 0 1 18 [0]) station :=
  ⟨test_taken _ rfl rfl rfl, test_taken _ rfl rfl rfl, test_taken _ rfl rfl rfl, test_taken _ rfl rfl rfl,
   test_taken _ rfl rfl rfl, test_taken _ rfl rfl rfl⟩

/-- Branch 2, disabled and enabled, and a record with the greatest divisor and start level. -/
theorem test_meets_BranchRecordIsReadAndSet : TakesFrame 0x20 (frameOf 0 1 13 [BitVec.ofNat 8 2]) station
    ∧ TakesFrame 0x21 (frameOf 1 1 0 [2, 8, 0, 1, 0x0F, 0xFF, 0, 31]) station
    ∧ PassesSession (frameOf 1 1 0 [2, 8, 0, 1, 0x0F, 0xFF, 0, 31]) (atFs station).me
    ∧ ({ BranchConfig.default with divisor := 4095, startLevel := 31 } : BranchConfig).bytes = [8, 0, 1, 0x0F, 0xFF, 0, 31]
    ∧ (atFs station).bu[(2 : BranchNo)].enabled = false
    ∧ (atFs (station.withBranch 2 freshBranch)).bu[(2 : BranchNo)].enabled = true
    ∧ TakesFrame 0x20 (frameOf 0 1 12 [2]) station ∧ TakesFrame 0x20 (frameOf 0 1 13 [4]) station
    ∧ TakesFrame 0x21 (frameOf 1 1 0 [2, 8, 0, 1, 0x10, 0, 0, 31]) station
    ∧ PassesSession (frameOf 1 1 0 [2, 8, 0, 1, 0x10, 0, 0, 31]) (atFs station).me
    ∧ branchConfigOfBytes [8, 0, 1, 0x10, 0, 0, 31] = none :=
  ⟨test_taken _ rfl rfl rfl, test_taken _ rfl rfl rfl, test_passes rfl, by decide, by decide, by decide,
   test_taken _ rfl rfl rfl, test_taken _ rfl rfl rfl, test_taken _ rfl rfl rfl, test_passes rfl, by decide⟩

theorem test_meets_BranchControlActs (k : Byte) : TakesFrame 0x22 (frameOf 1 1 0 [BitVec.ofNat 8 3, k]) station
    ∧ PassesSession (frameOf 1 1 0 [BitVec.ofNat 8 3, k]) (atFs station).me := ⟨test_taken _ rfl rfl rfl, test_passes rfl⟩

theorem test_meets_PollAndReadCountersReply : TakesFrame 0x28 (frameOf 0 1 1 []) station
    ∧ TakesFrame 0x39 (frameOf 0 1 5 [23, 1]) station ∧ TakesFrame 0x28 (frameOf 0 1 0 []) station
    ∧ TakesFrame 0x28 (frameOf 0 1 1 [0]) station ∧ TakesFrame 0x39 (frameOf 0 1 4 [23, 1]) station
    ∧ TakesFrame 0x39 (frameOf 0 1 7 [23, 2]) station ∧ TakesFrame 0x39 (frameOf 0 1 3 [0]) station :=
  ⟨test_taken _ rfl rfl rfl, test_taken _ rfl rfl rfl, test_taken _ rfl rfl rfl, test_taken _ rfl rfl rfl,
   test_taken _ rfl rfl rfl, test_taken _ rfl rfl rfl, test_taken _ rfl rfl rfl⟩

/-- The one record of a station after reset, sequence 0, named and not named. -/
theorem test_meets_AckRemovesRecords : TakesFrame 0x29 (frameOf 1 1 0 [0]) station
    ∧ PassesSession (frameOf 1 1 0 [0]) (atFs station).me
    ∧ (∃ e, (atFs station).eq.events = [] ++ e :: [] ∧ e.sequence = 0)
    ∧ (∀ x ∈ (atFs station).eq.events, x.sequence ≠ 9)
    ∧ TakesFrame 0x29 (frameOf 1 1 0 [0, 0]) station ∧ PassesSession (frameOf 1 1 0 [0, 0]) (atFs station).me :=
  ⟨test_taken _ rfl rfl rfl, test_passes rfl, ⟨_, rfl, rfl⟩, by decide, test_taken _ rfl rfl rfl, test_passes rfl⟩

theorem test_meets_TestSetConfigures : TakesFrame 0x30 (frameOf 1 1 0 [1, 3, 1, 2, 0x12, 0x34, 8]) station
    ∧ PassesSession (frameOf 1 1 0 [1, 3, 1, 2, 0x12, 0x34, 8]) (atFs station).me
    ∧ patternConfigOfBytes [1, 3, 1, 2, 0x12, 0x34, 8] = some
        { generatorOn := true, generatorPattern := .word, checkerOn := true, checkerPattern := .count, word := 0x1234,
          threshold := 8 }
    ∧ (atFs station).pu.run ≠ .running ∧ (atFs (station.withPu (checking 5 0 0 []).pu)).pu.run = .running
    ∧ TakesFrame 0x30 (frameOf 1 1 0 [1, 3, 1, 2, 0x12, 0x34, 9]) station
    ∧ PassesSession (frameOf 1 1 0 [1, 3, 1, 2, 0x12, 0x34, 9]) (atFs station).me :=
  ⟨test_taken _ rfl rfl rfl, test_passes rfl, by decide, by decide, by decide, test_taken _ rfl rfl rfl, test_passes rfl⟩

theorem test_meets_TestRunsStartAndStop : TakesFrame 0x31 (frameOf 1 1 0 [1, 2]) station
    ∧ TakesFrame 0x32 (frameOf 1 1 0 []) station ∧ PassesSession (frameOf 1 1 0 [1, 2]) (atFs station).me
    ∧ (atFs station).pu.config.checkerOn = false
    ∧ (atFs (station.withPu (checking 5 0 0 []).pu)).pu.config.checkerOn = true
    ∧ TakesFrame 0x31 (frameOf 1 1 0 [2, 0]) station ∧ TakesFrame 0x31 (frameOf 1 1 0 [1, 3]) station
    ∧ TakesFrame 0x32 (frameOf 1 1 0 [0]) station :=
  ⟨test_taken _ rfl rfl rfl, test_taken _ rfl rfl rfl, test_passes rfl, rfl, rfl, test_taken _ rfl rfl rfl,
   test_taken _ rfl rfl rfl, test_taken _ rfl rfl rfl⟩

/-- Each mode, taken and to all; Room 0; parameters of another length than 2; and a broadcast AT_CYCLE at distance 0. -/
theorem test_meets_CaptureSnapshotsOrArms :
    TakesFrame 0x38 (frameOf 0 1 0 [0, 0]) station ∧ TakesFrame 0x38 (frameOf 0 1 1 [1]) station
    ∧ MeetsFrame .broadcast 0x38 { frameOf 0 1 0 [1] with destination := 255 } station
    ∧ MeetsFrame .broadcast 0x38 { frameOf 0 1 0 [1, 41] with destination := 255 } station
    ∧ ¬(1 ≤ ((41 : Byte) - 41).toNat ∧ ((41 : Byte) - 41).toNat ≤ 127) ∧ TakesFrame 0x38 (frameOf 0 1 1 [0, 0]) station
    ∧ MeetsFrame .broadcast 0x38 { frameOf 0 1 0 [0, 0] with destination := 255 } station
    ∧ TakesFrame 0x38 (frameOf 0 1 1 [1, 168]) station ∧ (atFs station).ct.cycle = some 41
    ∧ ((168 : Byte) - 41).toNat = 127 ∧ (atFs station).ct.coasting = false ∧ (atFs station).cb.deferred.armed = false
    ∧ MeetsFrame .broadcast 0x38 { frameOf 0 1 0 [1, 42] with destination := 255 } station ∧ ((42 : Byte) - 41).toNat = 1 :=
  ⟨test_taken _ rfl rfl rfl, test_taken _ rfl rfl rfl, ⟨rfl, rfl, rfl, rfl⟩, ⟨rfl, rfl, rfl, rfl⟩, by decide,
   test_taken _ rfl rfl rfl, ⟨rfl, rfl, rfl, rfl⟩, test_taken _ rfl rfl rfl, by decide, by decide, by decide, by decide,
   ⟨rfl, rfl, rfl, rfl⟩, by decide⟩

/-- A station LOCKED in mid cycle, addressed, with an open session, a frame in passage and a checker that is LOCKED
meets every law that a step keeps. -/
theorem test_meets_the_laws : eventLaw station.eq ∧ mapLaw station.mu ∧ (station.me.address = 5 ∧ station.me.node.valid = true)
    ∧ managementLaw station ∧ (∀ b : BranchNo, branchLaw station.bu[b]) ∧ trackerLaw (locked (.slot 104)).ct
    ∧ frameLaw { FrameContext.reset with parser := .params, place := 1, length := some 2, params := [7] }
    ∧ patternLaw (checking 153 6 0 [false, true]).pu ∧ (∃ t, step station = .next t) := by
  refine ⟨by decide +kernel, by decide +kernel, ⟨rfl, rfl⟩, ?_, by decide +kernel, ?_, by decide +kernel, by decide +kernel,
    ⟨_, rfl⟩⟩
  · exact ⟨by decide, by decide, by decide, by decide, fun k h => by cases h; decide, by decide, by decide, by decide⟩
  · refine ⟨by decide, by decide, by decide, fun i h => ?_, by decide, by decide, by decide, by decide, by decide⟩
    have h' : Position.slot 104 = .slot i := h
    injection h' with h'
    subst h'
    decide

end Sys2Proof.Tests
end

section
/-!
The map requests (R40, R42 to R44). First what the gate's answer makes of a taken request, for any request: the lemmas
of the sessionless and of the sessioned half say it once, whatever step of the gate answers. Then each map request's
parameter check and owner, and the two statements.
-/

namespace Sys2Proof.Machine

/-! ### A taken request, by the answer of the gate's steps 5 to 7 -/

/-- Steps 5 to 7 leave the frame in passage alone, whichever of them answers (R122). -/
theorem serve_sp (q : ReqName) (r : Request) (s : State) : (serve q r s).2.sp = s.sp := by
  unfold serve
  split
  · rfl
  · split
    · rfl
    · exact (owner_frame q r s).1

/-- The state on which steps 5 to 7 meet a taken request that is sessionless: the request is heard (R124). -/
def heardAtGate (code : Byte) (f : ReqFrame) (s : State) : State := onMe (heard f) (atGate code f s)

/-- The state on which steps 5 to 7 meet a taken request that passed the session steps (R124). -/
def passedAtGate (code : Byte) (f : ReqFrame) (s : State) : State :=
  onMe (fun m => { m with inactivity := 0 }) (atGate code f s)

theorem onMe_touchSession (code : Byte) (f : ReqFrame) (s : State) :
    onMe (touchSession (frameRequest code f .taker)) (atGate code f s) = heardAtGate code f s := by
  unfold heardAtGate onMe
  rw [touchSession_frame]

theorem heardAtGate_of_passes {code : Byte} {f : ReqFrame} {s : State} (h : PassesSession f (atFs s).me) :
    heardAtGate code f s = passedAtGate code f s := by
  unfold heardAtGate passedAtGate onMe
  rw [heard_of_open (m := (atGate code f s).me) h.tag]

theorem tagIsOpen_of_passes {f : ReqFrame} {m : Management} (h : PassesSession f m) :
    tagIsOpen m f.session = true := by
  obtain ⟨k, hk, ht⟩ := Option.map_eq_some_iff.mp h.tag
  simp [tagIsOpen, hk, ht]

theorem replayOf_of_passes {code : Byte} {f : ReqFrame} {role : Role} {m : Management} (h : PassesSession f m) :
    replayOf (frameRequest code f role) m = none := by
  unfold replayOf
  split
  · exact h.fresh ‹_›
  · rfl

/-- A taken sessionless request that changes nothing beyond being heard: the reply of steps 5 to 7 is the answer. -/
theorem requestStep_sessionless {q : ReqName} {f : ReqFrame} {s : State} {rep : Reply} (h : TakesFrame q.code f s)
    (hc : q.code ≠ ReqName.code .capture) (hs : q.sessioned f.destination = false)
    (hv : serve q (frameRequest q.code f .taker) (heardAtGate q.code f s) = (rep, heardAtGate q.code f s)) :
    requestStep q.code f s
      = answered q.code f rep.status rep.data ((atFs s).withMe (heard f (atFs s).me)) := by
  have hg : gate (frameRequest q.code f .taker) (atGate q.code f s) = (rep, heardAtGate q.code f s) := by
    rw [gate_sessionless rfl hs, onMe_touchSession, hv]
  rw [requestStep_taken h hc, hg]
  exact onSp_reply rep rfl

/-- A taken request that passes the session steps: the reply of steps 5 to 7 is cached and is the answer, on the state
they leave. -/
theorem requestStep_sessioned {q : ReqName} {f : ReqFrame} {s u : State} {rep : Reply} (h : TakesFrame q.code f s)
    (hc : q.code ≠ ReqName.code .capture) (hs : q.sessioned f.destination = true)
    (hses : PassesSession f (atFs s).me)
    (hv : serve q (frameRequest q.code f .taker) (passedAtGate q.code f s) = (rep, u)) :
    requestStep q.code f s
      = withReply q.code f rep.status rep.data (onMe (cacheReply q (frameRequest q.code f .taker) rep) u) := by
  have hg : gate (frameRequest q.code f .taker) (atGate q.code f s)
      = (rep, onMe (cacheReply q (frameRequest q.code f .taker) rep) u) := by
    rw [gate_sessioned (r := frameRequest q.code f .taker) (s := atGate q.code f s) rfl hs hses.notZero
      (tagIsOpen_of_passes hses) (replayOf_of_passes hses), onMe_touchSession, heardAtGate_of_passes hses, hv]
  have hu : u.sp = frameContext q.code f .taker := by
    have := serve_sp q (frameRequest q.code f .taker) (passedAtGate q.code f s)
    rwa [hv] at this
  rw [requestStep_taken h hc, hg]
  exact onSp_reply rep hu

/-- A gated request whose owner writes the Map Unit alone, with any answer but that of an executed CLOSE. -/
theorem requestStep_sessioned_withMu {q : ReqName} {f : ReqFrame} {s : State} {m : MapUnit} {rep : Reply}
    (h : TakesFrame q.code f s) (hc : q.code ≠ ReqName.code .capture) (hs : q.sessioned f.destination = true)
    (hses : PassesSession f (atFs s).me) (hcl : ¬(q = .closeSession ∧ rep.status = .ok))
    (hv : serve q (frameRequest q.code f .taker) (passedAtGate q.code f s)
      = (rep, (passedAtGate q.code f s).withMu m)) :
    requestStep q.code f s
      = answered q.code f rep.status rep.data
          (((atFs s).withMe (gated f rep.status rep.data (atFs s).me)).withMu m) := by
  rw [requestStep_sessioned h hc hs hses hv]
  unfold onMe cacheReply
  rw [if_neg hcl]
  rfl

/-- A gated request that changes no block: refused at step 5, at step 6 or by its owner, or answered without effect. -/
theorem requestStep_sessioned_unchanged {q : ReqName} {f : ReqFrame} {s : State} {rep : Reply}
    (h : TakesFrame q.code f s) (hc : q.code ≠ ReqName.code .capture) (hs : q.sessioned f.destination = true)
    (hses : PassesSession f (atFs s).me) (hcl : ¬(q = .closeSession ∧ rep.status = .ok))
    (hv : serve q (frameRequest q.code f .taker) (passedAtGate q.code f s) = (rep, passedAtGate q.code f s)) :
    requestStep q.code f s
      = answered q.code f rep.status rep.data ((atFs s).withMe (gated f rep.status rep.data (atFs s).me)) :=
  requestStep_sessioned_withMu (m := (atFs s).mu) h hc hs hses hcl hv

/-! ### Parameter checks of the map requests (step 6) -/

theorem paramsOk_mapRead_iff (r : Request) :
    paramsOk .mapRead r = true ↔ ∃ bank first n : Byte, r.params = [bank, first, n] ∧ bank.toNat ≤ 1
      ∧ first.toNat ≤ 119 ∧ 1 ≤ n.toNat ∧ n.toNat ≤ 30 ∧ first.toNat + n.toNat ≤ 120 := by
  simp only [paramsOk, decide_eq_true_eq, List.length_eq_three, Request.param]
  constructor
  · rintro ⟨⟨bank, first, n, hp⟩, hrange⟩
    exact ⟨bank, first, n, hp, by simpa [hp] using hrange⟩
  · rintro ⟨bank, first, n, hp, hrange⟩
    exact ⟨⟨bank, first, n, hp⟩, by simpa [hp] using hrange⟩

theorem paramsOk_mapLength_iff (r : Request) :
    paramsOk .mapLength r = true ↔ ∃ v : Byte, r.params = [v] ∧ 4 ≤ v.toNat ∧ v.toNat ≤ 120 := by
  simp only [paramsOk, decide_eq_true_eq, List.length_eq_one_iff, Request.param]
  constructor
  · rintro ⟨⟨v, hp⟩, hrange⟩
    exact ⟨v, hp, by simpa [hp] using hrange⟩
  · rintro ⟨v, hp, hrange⟩
    exact ⟨⟨v, hp⟩, by simpa [hp] using hrange⟩

theorem paramsOk_mapCopy_iff (r : Request) : paramsOk .mapCopy r = true ↔ r.params = [] := by simp [paramsOk]

theorem paramsOk_mapCheck_iff (r : Request) : paramsOk .mapCheck r = true ↔ r.params = [] := by simp [paramsOk]

/-! ### Owners of the map requests (step 7) -/

theorem pendingLocked_iff (m : MapUnit) : pendingLocked m = true ↔ m.switch.state ≠ .idle := by simp [pendingLocked]

/-- The reply data of a MAP_READ of a map, from an index on (R40). -/
def mapReadData (m : SlotMap) (first n : Nat) : List Byte :=
  natByte m.length :: ((m.entries.toList.drop first).take n).map Entry.byte

/-- The bank byte 00h reads Live and 01h reads Pending (R40). -/
theorem mapReadOwner_of_params {r : Request} {pend : Bool} {first n : Byte} (s : State)
    (hp : r.params = [if pend then 0x01 else 0x00, first, n]) :
    mapReadOwner r s
      = (⟨.ok, mapReadData (if pend then s.mu.pendingMap else s.mu.live) first.toNat n.toNat⟩, s) := by
  cases pend <;> simp [mapReadOwner, mapReadData, Request.param, hp]

theorem mapLengthOwner_locked {s : State} (h : s.mu.switch.state ≠ .idle) (r : Request) :
    mapLengthOwner r s = (bare .locked, s) := if_pos ((pendingLocked_iff s.mu).mpr h)

theorem mapLengthOwner_idle {s : State} (h : s.mu.switch.state = .idle) (r : Request) :
    mapLengthOwner r s
      = (bare .ok, setPendingMap { s.mu.pendingMap with length := (r.param 0).toNat } s) :=
  if_neg fun hl => (pendingLocked_iff s.mu).mp hl h

theorem mapCopyOwner_locked {s : State} (h : s.mu.switch.state ≠ .idle) : mapCopyOwner s = (bare .locked, s) :=
  if_pos ((pendingLocked_iff s.mu).mpr h)

theorem mapCopyOwner_idle {s : State} (h : s.mu.switch.state = .idle) :
    mapCopyOwner s = (bare .ok, setPendingMap s.mu.live s) :=
  if_neg fun hl => (pendingLocked_iff s.mu).mp hl h

/-! ### The rows -/

theorem exec_mapRead (f : ReqFrame) (s : State) : exec (.mapRead f) s = .next (requestStep 0x10 f s) := rfl
theorem exec_mapLength (f : ReqFrame) (s : State) : exec (.mapLength f) s = .next (requestStep 0x12 f s) := rfl
theorem exec_mapCopy (f : ReqFrame) (s : State) : exec (.mapCopy f) s = .next (requestStep 0x13 f s) := rfl
theorem exec_mapCheck (f : ReqFrame) (s : State) : exec (.mapCheck f) s = .next (requestStep 0x14 f s) := rfl

section MapRead
variable {f : ReqFrame} {s : State} (ht : TakesFrame 0x10 f s)
include ht

/-- MAP_READ executed (R40). -/
theorem mapRead_answered {pend : Bool} {first n : Byte} (hp : f.params = [if pend then 0x01 else 0x00, first, n])
    (h1 : 1 ≤ n.toNat) (h30 : n.toNat ≤ 30) (h119 : first.toNat ≤ 119) (h120 : first.toNat + n.toNat ≤ 120)
    (hroom : n.toNat + 1 ≤ f.room.toNat) :
    requestStep 0x10 f s = answered 0x10 f .ok
      (mapReadData (if pend then (atFs s).mu.pendingMap else (atFs s).mu.live) first.toNat n.toNat)
      ((atFs s).withMe (heard f (atFs s).me)) := by
  have hneed : roomNeeded .mapRead (frameRequest 0x10 f .taker) ≤ f.room.toNat := by
    have : roomNeeded .mapRead (frameRequest 0x10 f .taker) = 1 + n.toNat := by simp [roomNeeded, frameRequest, hp]
    omega
  have hok : paramsOk .mapRead (frameRequest 0x10 f .taker) = true :=
    (paramsOk_mapRead_iff _).mpr ⟨_, first, n, hp, by cases pend <;> decide, h119, h1, h30, h120⟩
  exact requestStep_sessionless (q := .mapRead) ht (by decide) rfl
    ((serve_owner rfl hneed hok).trans (mapReadOwner_of_params (r := frameRequest 0x10 f .taker) _ hp))

theorem mapRead_badParam (hroom : 1 + f.params[2]?.elim 0 BitVec.toNat ≤ f.room.toNat)
    (hbad : ∀ bank first n : Byte, f.params = [bank, first, n] → ¬(bank.toNat ≤ 1 ∧ first.toNat ≤ 119
      ∧ 1 ≤ n.toNat ∧ n.toNat ≤ 30 ∧ first.toNat + n.toNat ≤ 120)) :
    requestStep 0x10 f s = answered 0x10 f .badParam [] ((atFs s).withMe (heard f (atFs s).me)) := by
  have hnot : paramsOk .mapRead (frameRequest 0x10 f .taker) = false := by
    rw [Bool.eq_false_iff, Ne, paramsOk_mapRead_iff]
    rintro ⟨bank, first, n, hp, hrange⟩
    exact hbad bank first n hp hrange
  exact requestStep_sessionless (q := .mapRead) ht (by decide) rfl (serve_badParam hroom hnot)

end MapRead

section MapCheck
variable {f : ReqFrame} {s : State} (ht : TakesFrame 0x14 f s) (hroom : 3 ≤ f.room.toNat)
include ht hroom

/-- MAP_CHECK executed (R44). -/
theorem mapCheck_answered (hp : f.params = []) :
    requestStep 0x14 f s = answered 0x14 f .ok (mapCheckData (atFs s).mu.pendingMap)
      ((atFs s).withMe (heard f (atFs s).me)) :=
  requestStep_sessionless (q := .mapCheck) ht (by decide) rfl
    (serve_owner rfl hroom ((paramsOk_mapCheck_iff _).mpr hp))

theorem mapCheck_badParam (hp : f.params ≠ []) :
    requestStep 0x14 f s = answered 0x14 f .badParam [] ((atFs s).withMe (heard f (atFs s).me)) :=
  requestStep_sessionless (q := .mapCheck) ht (by decide) rfl
    (serve_badParam hroom (Bool.eq_false_iff.mpr (mt (paramsOk_mapCheck_iff _).mp hp)))

end MapCheck

section MapLength
variable {f : ReqFrame} {s : State} (ht : TakesFrame 0x12 f s) (hses : PassesSession f (atFs s).me)
include ht hses

theorem mapLength_locked {v : Byte} (hp : f.params = [v]) (h4 : 4 ≤ v.toNat) (h120 : v.toNat ≤ 120)
    (hl : (atFs s).mu.switch.state ≠ .idle) :
    requestStep 0x12 f s = answered 0x12 f .locked [] ((atFs s).withMe (gated f .locked [] (atFs s).me)) :=
  requestStep_sessioned_unchanged (q := .mapLength) (rep := bare .locked) ht (by decide) rfl hses (by decide)
    ((serve_owner rfl (Nat.zero_le _) ((paramsOk_mapLength_iff _).mpr ⟨v, hp, h4, h120⟩)).trans
      (mapLengthOwner_locked (s := passedAtGate 0x12 f s) hl _))

/-- MAP_LENGTH executed (R42). -/
theorem mapLength_stored {v : Byte} (hp : f.params = [v]) (h4 : 4 ≤ v.toNat) (h120 : v.toNat ≤ 120)
    (hi : (atFs s).mu.switch.state = .idle) :
    requestStep 0x12 f s = answered 0x12 f .ok []
      (((atFs s).withMe (gated f .ok [] (atFs s).me)).withMu
        { (atFs s).mu with pendingMap := { (atFs s).mu.pendingMap with length := v.toNat } }) := by
  have hv : (frameRequest 0x12 f .taker).param 0 = v := by simp [param_frame, hp]
  have howner := mapLengthOwner_idle (s := passedAtGate 0x12 f s) hi (frameRequest 0x12 f .taker)
  rw [hv] at howner
  exact requestStep_sessioned_withMu (q := .mapLength) (rep := bare .ok) ht (by decide) rfl hses (by decide)
    ((serve_owner rfl (Nat.zero_le _) ((paramsOk_mapLength_iff _).mpr ⟨v, hp, h4, h120⟩)).trans howner)

theorem mapLength_badParam (hbad : ∀ v : Byte, f.params = [v] → ¬(4 ≤ v.toNat ∧ v.toNat ≤ 120)) :
    requestStep 0x12 f s = answered 0x12 f .badParam [] ((atFs s).withMe (gated f .badParam [] (atFs s).me)) := by
  have hnot : paramsOk .mapLength (frameRequest 0x12 f .taker) = false := by
    rw [Bool.eq_false_iff, Ne, paramsOk_mapLength_iff]
    rintro ⟨v, hp, hrange⟩
    exact hbad v hp hrange
  exact requestStep_sessioned_unchanged (q := .mapLength) (rep := bare .badParam) ht (by decide) rfl hses (by decide)
    (serve_badParam (Nat.zero_le _) hnot)

end MapLength

section MapCopy
variable {f : ReqFrame} {s : State} (ht : TakesFrame 0x13 f s) (hses : PassesSession f (atFs s).me)
include ht hses

theorem mapCopy_locked (hp : f.params = []) (hl : (atFs s).mu.switch.state ≠ .idle) :
    requestStep 0x13 f s = answered 0x13 f .locked [] ((atFs s).withMe (gated f .locked [] (atFs s).me)) :=
  requestStep_sessioned_unchanged (q := .mapCopy) (rep := bare .locked) ht (by decide) rfl hses (by decide)
    ((serve_owner rfl (Nat.zero_le _) ((paramsOk_mapCopy_iff _).mpr hp)).trans
      (mapCopyOwner_locked (s := passedAtGate 0x13 f s) hl))

/-- MAP_COPY executed (R43). -/
theorem mapCopy_copied (hp : f.params = []) (hi : (atFs s).mu.switch.state = .idle) :
    requestStep 0x13 f s = answered 0x13 f .ok []
      (((atFs s).withMe (gated f .ok [] (atFs s).me)).withMu { (atFs s).mu with pendingMap := (atFs s).mu.live }) :=
  requestStep_sessioned_withMu (q := .mapCopy) (rep := bare .ok) ht (by decide) rfl hses (by decide)
    ((serve_owner rfl (Nat.zero_le _) ((paramsOk_mapCopy_iff _).mpr hp)).trans
      (mapCopyOwner_idle (s := passedAtGate 0x13 f s) hi))

theorem mapCopy_badParam (hp : f.params ≠ []) :
    requestStep 0x13 f s = answered 0x13 f .badParam [] ((atFs s).withMe (gated f .badParam [] (atFs s).me)) :=
  requestStep_sessioned_unchanged (q := .mapCopy) (rep := bare .badParam) ht (by decide) rfl hses (by decide)
    (serve_badParam (Nat.zero_le _) (Bool.eq_false_iff.mpr (mt (paramsOk_mapCopy_iff _).mp hp)))

end MapCopy

/-! ### The statements -/

/-- Settles O43, by the answers of the two rows, executed and refused. -/
theorem mapReadAndCheckReply : Obligations.MapReadAndCheckReply := by
  rintro f s _ rfl
  refine ⟨?mapRead, ?mapCheck, ?mapReadBad, ?mapCheckBad⟩
  case mapRead =>
    rintro pend first n _ ht hp h1 h30 h119 h120 hroom rfl
    exact (exec_mapRead f s).trans (congrArg _ (mapRead_answered ht hp h1 h30 h119 h120 hroom))
  case mapCheck =>
    rintro _ _ ht hp hroom rfl rfl
    exact (exec_mapCheck f s).trans (congrArg _ (mapCheck_answered ht hroom hp))
  case mapReadBad =>
    intro ht hroom hbad
    exact (exec_mapRead f s).trans (congrArg _ (mapRead_badParam ht hroom hbad))
  case mapCheckBad =>
    intro ht hroom hp
    exact (exec_mapCheck f s).trans (congrArg _ (mapCheck_badParam ht hroom hp))

/-- Settles O45, by the answers of the two rows: refused for a parameter, refused while Pending is locked, executed. -/
theorem mapLengthAndCopyWritePending : Obligations.MapLengthAndCopyWritePending := by
  rintro f s _ rfl hses
  refine ⟨?mapLength, ?mapLengthBad, ?mapCopyBad, ?mapCopy⟩
  case mapLength =>
    intro v ht hp h4 h120
    exact ⟨fun hl => (exec_mapLength f s).trans (congrArg _ (mapLength_locked ht hses hp h4 h120 hl)),
      fun hi => (exec_mapLength f s).trans (congrArg _ (mapLength_stored ht hses hp h4 h120 hi))⟩
  case mapLengthBad =>
    intro ht hbad
    exact (exec_mapLength f s).trans (congrArg _ (mapLength_badParam ht hses hbad))
  case mapCopyBad =>
    intro ht hp
    exact (exec_mapCopy f s).trans (congrArg _ (mapCopy_badParam ht hses hp))
  case mapCopy =>
    intro ht hp
    exact ⟨fun hl => (exec_mapCopy f s).trans (congrArg _ (mapCopy_locked ht hses hp hl)),
      fun hi => (exec_mapCopy f s).trans (congrArg _ (mapCopy_copied ht hses hp hi))⟩

end Sys2Proof.Machine
end

section
/-!
DISARM, SWITCH_STATUS and TEST_STATUS (R78, R81, R161). The refusals of steps 5 and 6 are said once for any sessionless
and any sessioned request; then come what each of the three owners answers, and the two statements.
-/

namespace Sys2Proof.Machine

/-! ### A taken request refused at step 5 or at step 6 (R122) -/

section Refusals
variable {q : ReqName} {f : ReqFrame} {s : State} (h : TakesFrame q.code f s) (hc : q.code ≠ ReqName.code .capture)
include h hc

theorem requestStep_sessionless_roomShort (hs : q.sessioned f.destination = false)
    (hr : f.room.toNat < roomNeeded q (frameRequest q.code f .taker)) :
    requestStep q.code f s = answered q.code f .roomShort [] ((atFs s).withMe (heard f (atFs s).me)) :=
  requestStep_sessionless (rep := bare .roomShort) h hc hs (serve_roomShort rfl hr)

theorem requestStep_sessionless_badParam (hs : q.sessioned f.destination = false)
    (hr : roomNeeded q (frameRequest q.code f .taker) ≤ f.room.toNat)
    (hp : paramsOk q (frameRequest q.code f .taker) = false) :
    requestStep q.code f s = answered q.code f .badParam [] ((atFs s).withMe (heard f (atFs s).me)) :=
  requestStep_sessionless (rep := bare .badParam) h hc hs (serve_badParam hr hp)

theorem requestStep_sessioned_roomShort (hs : q.sessioned f.destination = true) (hses : PassesSession f (atFs s).me)
    (hr : f.room.toNat < roomNeeded q (frameRequest q.code f .taker)) :
    requestStep q.code f s
      = answered q.code f .roomShort [] ((atFs s).withMe (gated f .roomShort [] (atFs s).me)) :=
  requestStep_sessioned_unchanged (rep := bare .roomShort) h hc hs hses (fun hclose => Status.noConfusion hclose.2)
    (serve_roomShort rfl hr)

theorem requestStep_sessioned_badParam (hs : q.sessioned f.destination = true) (hses : PassesSession f (atFs s).me)
    (hr : roomNeeded q (frameRequest q.code f .taker) ≤ f.room.toNat)
    (hp : paramsOk q (frameRequest q.code f .taker) = false) :
    requestStep q.code f s
      = answered q.code f .badParam [] ((atFs s).withMe (gated f .badParam [] (atFs s).me)) :=
  requestStep_sessioned_unchanged (rep := bare .badParam) h hc hs hses (fun hclose => Status.noConfusion hclose.2)
    (serve_badParam hr hp)

end Refusals

/-! ### Parameter checks (step 6) -/

/-- The three requests take no parameter. -/
theorem paramsOk_iff_noParams {q : ReqName} (hq : q = .disarm ∨ q = .switchStatus ∨ q = .testStatus) (r : Request) :
    paramsOk q r = true ↔ r.params = [] := by
  rcases hq with rfl | rfl | rfl <;> exact List.isEmpty_iff

/-! ### The DISARM owner (R78) -/

theorem passedAtGate_mu (code : Byte) (f : ReqFrame) (s : State) : (passedAtGate code f s).mu = (atFs s).mu := rfl

/-- The switch record after a DISARM: an ARMED switch ends CANCELLED, any other record stands. -/
def disarmedRecord (r : SwitchRecord) : SwitchRecord :=
  if r.state = .armed then endRecord r .cancelled .none else r

/-- The Status of a DISARM, by the record it finds. -/
def disarmStatus (r : SwitchRecord) : Status := if r.state = .armed then .ok else .tooLate

/-- Both branches in one: the data is that of the record left, and the Map Unit keeps both maps. -/
theorem disarmOwner_eq (s : State) :
    disarmOwner s = (⟨disarmStatus s.mu.switch, disarmData (disarmedRecord s.mu.switch)⟩,
      s.withMu { s.mu with switch := disarmedRecord s.mu.switch }) := by
  unfold disarmOwner disarmStatus disarmedRecord
  by_cases h : s.mu.switch.state = .armed
  · simp only [if_pos h]
  · simp only [if_neg h]
    rfl

/-! ### The eighteen bytes of TEST_STATUS (R161) -/

/-- The window's mismatches are its elements `true`. -/
theorem windowMismatches_eq_count (w : List Bool) : windowMismatches w = w.count true :=
  List.countP_congr fun x _ => by simp

/-- The run record and the checker come first, the pattern configuration of R158 last. -/
theorem testStatusData_eq (p : PatternUnit) :
    testStatusData p =
      [p.run.code, p.mode.code, p.runLength.code, hiByte p.checked, loByte p.checked, hiByte p.errors, loByte p.errors,
       p.resyncs, boolByte p.stopped, p.checker.code, natByte (p.window.count true),
       boolByte p.config.generatorOn, p.config.generatorPattern.code, boolByte p.config.checkerOn,
       p.config.checkerPattern.code, hiByte p.config.word, loByte p.config.word, natByte p.config.threshold] := by
  rw [← windowMismatches_eq_count]
  rfl

/-! ### The rows -/

theorem exec_disarm (f : ReqFrame) (s : State) : exec (.disarm f) s = .next (requestStep 0x19 f s) := rfl
theorem exec_switchStatus (f : ReqFrame) (s : State) : exec (.switchStatus f) s = .next (requestStep 0x1A f s) := rfl
theorem exec_testStatus (f : ReqFrame) (s : State) : exec (.testStatus f) s = .next (requestStep 0x33 f s) := rfl

section Disarm
variable {f : ReqFrame} {s : State} (ht : TakesFrame 0x19 f s) (hses : PassesSession f (atFs s).me)
include ht hses

/-- DISARM executed (R78), whatever state the switch is in. -/
theorem disarm_answered {r : SwitchRecord} (hr : r = (atFs s).mu.switch) (hp : f.params = [])
    (hroom : 5 ≤ f.room.toNat) :
    requestStep 0x19 f s = answered 0x19 f (disarmStatus r) (disarmData (disarmedRecord r))
      (((atFs s).withMe (gated f (disarmStatus r) (disarmData (disarmedRecord r)) (atFs s).me)).withMu
        { (atFs s).mu with switch := disarmedRecord r }) := by
  have hserve : serve .disarm (frameRequest 0x19 f .taker) (passedAtGate 0x19 f s)
      = disarmOwner (passedAtGate 0x19 f s) := serve_owner rfl hroom ((paramsOk_iff_noParams (.inl rfl) _).mpr hp)
  rw [disarmOwner_eq, passedAtGate_mu, ← hr] at hserve
  exact requestStep_sessioned_withMu (q := .disarm) (rep := ⟨disarmStatus r, disarmData (disarmedRecord r)⟩) ht
    (by decide) rfl hses (fun hclose => ReqName.noConfusion hclose.1) hserve

theorem disarm_roomShort (hroom : f.room.toNat < 5) :
    requestStep 0x19 f s = answered 0x19 f .roomShort [] ((atFs s).withMe (gated f .roomShort [] (atFs s).me)) :=
  requestStep_sessioned_roomShort (q := .disarm) ht (by decide) rfl hses hroom

theorem disarm_badParam (hroom : 5 ≤ f.room.toNat) (hp : f.params ≠ []) :
    requestStep 0x19 f s = answered 0x19 f .badParam [] ((atFs s).withMe (gated f .badParam [] (atFs s).me)) :=
  requestStep_sessioned_badParam (q := .disarm) ht (by decide) rfl hses hroom
    (Bool.eq_false_iff.mpr (mt (paramsOk_iff_noParams (.inl rfl) _).mp hp))

end Disarm

section SwitchStatus
variable {f : ReqFrame} {s : State} (ht : TakesFrame 0x1A f s)
include ht

/-- SWITCH_STATUS executed (R81). -/
theorem switchStatus_answered (hp : f.params = []) (hroom : 13 ≤ f.room.toNat) :
    requestStep 0x1A f s = answered 0x1A f .ok (switchStatusData (atFs s).mu.switch)
      ((atFs s).withMe (heard f (atFs s).me)) :=
  requestStep_sessionless (q := .switchStatus) ht (by decide) rfl
    (serve_owner rfl hroom ((paramsOk_iff_noParams (.inr (.inl rfl)) _).mpr hp))

theorem switchStatus_roomShort (hroom : f.room.toNat < 13) :
    requestStep 0x1A f s = answered 0x1A f .roomShort [] ((atFs s).withMe (heard f (atFs s).me)) :=
  requestStep_sessionless_roomShort (q := .switchStatus) ht (by decide) rfl hroom

theorem switchStatus_badParam (hroom : 13 ≤ f.room.toNat) (hp : f.params ≠ []) :
    requestStep 0x1A f s = answered 0x1A f .badParam [] ((atFs s).withMe (heard f (atFs s).me)) :=
  requestStep_sessionless_badParam (q := .switchStatus) ht (by decide) rfl hroom
    (Bool.eq_false_iff.mpr (mt (paramsOk_iff_noParams (.inr (.inl rfl)) _).mp hp))

end SwitchStatus

section TestStatus
variable {f : ReqFrame} {s : State} (ht : TakesFrame 0x33 f s)
include ht

/-- TEST_STATUS executed (R161). -/
theorem testStatus_answered (hp : f.params = []) (hroom : 18 ≤ f.room.toNat) :
    requestStep 0x33 f s = answered 0x33 f .ok (testStatusData (atFs s).pu)
      ((atFs s).withMe (heard f (atFs s).me)) :=
  requestStep_sessionless (q := .testStatus) ht (by decide) rfl
    (serve_owner rfl hroom ((paramsOk_iff_noParams (.inr (.inr rfl)) _).mpr hp))

theorem testStatus_roomShort (hroom : f.room.toNat < 18) :
    requestStep 0x33 f s = answered 0x33 f .roomShort [] ((atFs s).withMe (heard f (atFs s).me)) :=
  requestStep_sessionless_roomShort (q := .testStatus) ht (by decide) rfl hroom

theorem testStatus_badParam (hroom : 18 ≤ f.room.toNat) (hp : f.params ≠ []) :
    requestStep 0x33 f s = answered 0x33 f .badParam [] ((atFs s).withMe (heard f (atFs s).me)) :=
  requestStep_sessionless_badParam (q := .testStatus) ht (by decide) rfl hroom
    (Bool.eq_false_iff.mpr (mt (paramsOk_iff_noParams (.inr (.inr rfl)) _).mp hp))

end TestStatus

/-! ### The statements -/

/-- Settles O47, by the three answers of DISARM: executed, refused for its Room, refused for a parameter. -/
theorem disarmCancels : Obligations.DisarmCancels := by
  rintro f s _ r _ _ _ rfl ht hses hr rfl rfl rfl
  refine ⟨?executed, ?roomShort, ?badParam⟩
  case executed =>
    intro hp hroom
    exact (exec_disarm f s).trans (congrArg _ (disarm_answered ht hses hr hp hroom))
  case roomShort =>
    intro hroom
    exact (exec_disarm f s).trans (congrArg _ (disarm_roomShort ht hses hroom))
  case badParam =>
    intro hroom hp
    exact (exec_disarm f s).trans (congrArg _ (disarm_badParam ht hses hroom hp))

/-- Settles O48, by the three answers of each row: executed, refused for its Room, refused for a parameter. -/
theorem switchAndTestStatusReply : Obligations.SwitchAndTestStatusReply := by
  rintro f s _ rfl
  refine ⟨?switchStatus, ?switchStatusRefused, ?testStatusRefused, ?testStatus⟩
  case switchStatus =>
    rintro _ ht hp hroom rfl
    exact (exec_switchStatus f s).trans (congrArg _ (switchStatus_answered ht hp hroom))
  case switchStatusRefused =>
    intro ht
    exact ⟨fun hroom => (exec_switchStatus f s).trans (congrArg _ (switchStatus_roomShort ht hroom)),
      fun hroom hp => (exec_switchStatus f s).trans (congrArg _ (switchStatus_badParam ht hroom hp))⟩
  case testStatusRefused =>
    intro ht
    exact ⟨fun hroom => (exec_testStatus f s).trans (congrArg _ (testStatus_roomShort ht hroom)),
      fun hroom hp => (exec_testStatus f s).trans (congrArg _ (testStatus_badParam ht hroom hp))⟩
  case testStatus =>
    rintro _ ht hp hroom rfl
    have hreply := testStatus_answered ht hp hroom
    rw [testStatusData_eq] at hreply
    exact (exec_testStatus f s).trans (congrArg _ hreply)

end Sys2Proof.Machine
end

section
/-!
The branch port requests (R95 to R100). The seven bytes of R94 and the record they give determine each other; then come
the parameter checks and owners of the three requests, what a gated request that writes one branch leaves, and the two
statements.
-/

namespace Sys2Proof.Machine

/-! ### Two bytes as a word -/

theorem word16_toNat (hi lo : Byte) : (word16 hi lo).toNat = 256 * hi.toNat + lo.toNat := by
  simp only [word16, BitVec.toNat_append]
  rw [← Nat.shiftLeft_add_eq_or_of_lt lo.isLt, Nat.shiftLeft_eq]
  omega

theorem hiByte_toNat (w : Word16) : (hiByte w).toNat = w.toNat / 256 := by
  simp only [hiByte, BitVec.extractLsb'_toNat, Nat.shiftRight_eq_div_pow]
  omega

theorem loByte_toNat (w : Word16) : (loByte w).toNat = w.toNat % 256 := by
  simp [loByte, BitVec.extractLsb'_toNat]

theorem hiByte_eq_ofNat (w : Word16) : hiByte w = BitVec.ofNat 8 (w.toNat / 256) := by
  rw [← hiByte_toNat, BitVec.ofNat_toNat, BitVec.setWidth_eq]

theorem loByte_eq_ofNat (w : Word16) : loByte w = BitVec.ofNat 8 (w.toNat % 256) := by
  rw [← loByte_toNat, BitVec.ofNat_toNat, BitVec.setWidth_eq]

@[simp] theorem word16_hiByte_loByte (w : Word16) : word16 (hiByte w) (loByte w) = w :=
  BitVec.eq_of_toNat_eq (by rw [word16_toNat, hiByte_toNat, loByte_toNat, Nat.div_add_mod])

@[simp] theorem hiByte_word16 (hi lo : Byte) : hiByte (word16 hi lo) = hi :=
  BitVec.eq_of_toNat_eq (by rw [hiByte_toNat, word16_toNat]; omega)

@[simp] theorem loByte_word16 (hi lo : Byte) : loByte (word16 hi lo) = lo :=
  BitVec.eq_of_toNat_eq (by rw [loByte_toNat, word16_toNat]; omega)

theorem divisor_setWidth_toNat (d : BitVec 12) : (d.setWidth 16).toNat = d.toNat :=
  BitVec.toNat_setWidth_of_le (by decide)

/-- A word that is at most 4095 is the word of a rate divisor. -/
theorem setWidth_ofNat_divisor {w : Word16} (h : w.toNat ≤ 4095) : (BitVec.ofNat 12 w.toNat).setWidth 16 = w :=
  BitVec.eq_of_toNat_eq (by simp only [BitVec.toNat_setWidth, BitVec.toNat_ofNat]; omega)

/-! ### The configuration record and its bytes (R94) -/

theorem parityOfByte_eq_some_iff (v : Byte) (p : BranchParity) : parityOfByte v = some p ↔ v = p.code := by
  unfold parityOfByte
  constructor
  · intro h
    split_ifs at h with h0 h1 h2 <;> cases h <;> assumption
  · rintro rfl
    cases p <;> rfl

theorem policyOfByte_eq_some_iff (v : Byte) (e : ErrorPolicy) : policyOfByte v = some e ↔ v = e.code := by
  unfold policyOfByte
  constructor
  · intro h
    split_ifs at h with h0 h1 <;> cases h <;> assumption
  · rintro rfl
    cases e <;> rfl

/-- A valid record of R94: a rate divisor from 1 on, and a start level up to 31. -/
def BranchConfig.Valid (c : BranchConfig) : Prop := c.divisor ≠ 0 ∧ c.startLevel ≤ 31

/-- A valid record is read back from its own bytes. -/
theorem branchConfigOfBytes_bytes {c : BranchConfig} (h : c.Valid) : branchConfigOfBytes c.bytes = some c := by
  obtain ⟨seven, parity, two, divisor, policy, level⟩ := c
  obtain ⟨hd, hl⟩ : divisor ≠ 0 ∧ level ≤ 31 := h
  have hpar := (parityOfByte_eq_some_iff _ parity).mpr rfl
  have hpol := (policyOfByte_eq_some_iff _ policy).mpr rfl
  have hpos : 1 ≤ divisor.toNat := Nat.one_le_iff_ne_zero.mpr fun h0 => hd (BitVec.eq_of_toNat_eq h0)
  have hlev : (natByte level).toNat = level := by simp only [natByte, BitVec.toNat_ofNat]; omega
  simp only [BranchConfig.bytes, branchConfigOfBytes, hpar, hpol, word16_hiByte_loByte, divisor_setWidth_toNat, hlev]
  rw [if_pos ⟨by cases seven <;> simp, by cases two <;> simp, hpos, by omega, hl⟩]
  cases seven <;> cases two <;> simp

/-- Bytes that give a record are that record's bytes, and it is valid. -/
theorem bytes_of_branchConfigOfBytes {bs : List Byte} {c : BranchConfig} (h : branchConfigOfBytes bs = some c) :
    c.Valid ∧ bs = c.bytes := by
  unfold branchConfigOfBytes at h
  split at h
  · rename_i bits par stops dHi dLo pol level
    split at h
    · rename_i p e hp he
      dsimp only at h
      split_ifs at h with hok
      obtain ⟨hbits, hstops, h1, h4095, h31⟩ := hok
      cases h
      obtain rfl := (parityOfByte_eq_some_iff _ _).mp hp
      obtain rfl := (policyOfByte_eq_some_iff _ _).mp he
      have hdiv := setWidth_ofNat_divisor h4095
      refine ⟨⟨?divisor, h31⟩, ?bytes⟩
      case divisor =>
        intro h0
        have : (word16 dHi dLo).toNat = 0 := by
          rw [← hdiv, show BitVec.ofNat 12 (word16 dHi dLo).toNat = 0 from h0]
          rfl
        omega
      case bytes =>
        have hbitsByte : (if decide (bits = 0x07) = true then 0x07 else 0x08) = bits := by
          rcases hbits with rfl | rfl <;> rfl
        have hstopsByte : (if decide (stops = 0x02) = true then 0x02 else 0x01) = stops := by
          rcases hstops with rfl | rfl <;> rfl
        have hlevel : natByte level.toNat = level := by simp [natByte]
        simp only [BranchConfig.bytes, hdiv, hbitsByte, hstopsByte, hlevel, hiByte_word16, loByte_word16]
    · cases h
  · cases h

/-- Seven bytes are a valid record exactly where they are the bytes of one. -/
theorem branchConfigOfBytes_eq_some_iff (bs : List Byte) (c : BranchConfig) :
    branchConfigOfBytes bs = some c ↔ c.Valid ∧ bs = c.bytes :=
  ⟨bytes_of_branchConfigOfBytes, fun ⟨hvalid, hbytes⟩ => hbytes ▸ branchConfigOfBytes_bytes hvalid⟩

@[simp] theorem BranchConfig.bytes_length (c : BranchConfig) : c.bytes.length = 7 := rfl

/-- The bytes in the words of R94: the rate divisor is sent high byte first. -/
theorem BranchConfig.bytes_eq (c : BranchConfig) :
    c.bytes = [if c.sevenBits then 0x07 else 0x08, c.parity.code, if c.twoStops then 0x02 else 0x01,
      BitVec.ofNat 8 (c.divisor.toNat / 256), BitVec.ofNat 8 (c.divisor.toNat % 256), c.policy.code,
      BitVec.ofNat 8 c.startLevel] := by
  simp only [BranchConfig.bytes, hiByte_eq_ofNat, loByte_eq_ofNat, divisor_setWidth_toNat, natByte]

/-! ### The branch a request names -/

/-- The branch number a request carries as its first parameter byte. -/
def branchByte (b : BranchNo) : Byte := BitVec.ofNat 8 b.val

theorem branchByte_toNat (b : BranchNo) : (branchByte b).toNat = b.val := by
  simp only [branchByte, BitVec.toNat_ofNat]
  omega

theorem toNat_le_three_iff (v : Byte) : v.toNat ≤ 3 ↔ ∃ b : BranchNo, v = branchByte b := by
  constructor
  · intro h
    exact ⟨⟨v.toNat, by omega⟩, by simp [branchByte]⟩
  · rintro ⟨b, rfl⟩
    rw [branchByte_toNat]
    omega

theorem param_zero_of_params {r : Request} {v : Byte} {rest : List Byte} (hp : r.params = v :: rest) :
    r.param 0 = v := by
  rw [Request.param, hp]
  rfl

theorem requestBranch_of_params {r : Request} {b : BranchNo} {rest : List Byte}
    (hp : r.params = branchByte b :: rest) : requestBranch r = b := by
  have hparam := param_zero_of_params hp
  apply Fin.ext
  simp only [requestBranch, hparam, branchByte_toNat]
  omega

/-! ### Parameter checks (step 6) -/

theorem paramsOk_branchGet_iff (r : Request) :
    paramsOk .branchGet r = true ↔ ∃ v : Byte, r.params = [v] ∧ v.toNat ≤ 3 := by
  simp only [paramsOk, decide_eq_true_eq, List.length_eq_one_iff, Request.param]
  constructor
  · rintro ⟨⟨v, hp⟩, hrange⟩
    exact ⟨v, hp, by simpa [hp] using hrange⟩
  · rintro ⟨v, hp, hrange⟩
    exact ⟨⟨v, hp⟩, by simpa [hp] using hrange⟩

/-- BRANCH_SET takes a branch number and the bytes of a valid record. -/
theorem paramsOk_branchSet_iff (r : Request) :
    paramsOk .branchSet r = true ↔
      ∃ (b : BranchNo) (c : BranchConfig), c.Valid ∧ r.params = branchByte b :: c.bytes := by
  simp only [paramsOk, Bool.and_eq_true, decide_eq_true_eq, Option.isSome_iff_exists,
    branchConfigOfBytes_eq_some_iff]
  constructor
  · rintro ⟨⟨hlen, hbranch⟩, c, hvalid, hbytes⟩
    obtain ⟨v, rest, hp⟩ := List.exists_cons_of_length_eq_add_one hlen
    obtain ⟨b, hb⟩ := (toNat_le_three_iff _).mp hbranch
    have hv : v = branchByte b := (param_zero_of_params hp).symm.trans hb
    exact ⟨b, c, hvalid, by rw [hp, hv, ← hbytes, hp]; rfl⟩
  · rintro ⟨b, c, hvalid, hp⟩
    exact ⟨⟨by simp [hp], (toNat_le_three_iff _).mpr ⟨b, param_zero_of_params hp⟩⟩, c, hvalid, by simp [hp]⟩

theorem actionOfByte_code (a : BranchAction) : actionOfByte a.code = some a := by cases a <;> rfl

theorem paramsOk_branchControl {r : Request} {b : BranchNo} {a : BranchAction}
    (hp : r.params = [branchByte b, a.code]) : paramsOk .branchControl r = true := by
  have hbranch : (branchByte b).toNat ≤ 3 := (toNat_le_three_iff _).mpr ⟨b, rfl⟩
  simp [paramsOk, Request.param, hp, hbranch, actionOfByte_code]

/-! ### Owners (step 7) -/

theorem branchGetOwner_of_params {r : Request} {b : BranchNo} {rest : List Byte} (s : State)
    (hp : r.params = branchByte b :: rest) : branchGetOwner r s = (⟨.ok, branchGetData s.bu[b]⟩, s) := by
  obtain rfl := requestBranch_of_params hp
  rfl

theorem branchSetOwner_enabled {r : Request} {s : State} {b : BranchNo} {rest : List Byte}
    (hp : r.params = branchByte b :: rest) (he : s.bu[b].enabled = true) :
    branchSetOwner r s = (bare .branchEnabled, s) := by
  obtain rfl := requestBranch_of_params hp
  exact if_pos he

theorem branchSetOwner_disabled {r : Request} {s : State} {b : BranchNo} {c : BranchConfig} (hc : c.Valid)
    (hp : r.params = branchByte b :: c.bytes) (he : s.bu[b].enabled = false) :
    branchSetOwner r s = (bare .ok, s.withBranch b { s.bu[b] with config := c }) := by
  have hrecord : branchConfigOfBytes (r.params.drop 1) = some c := by
    rw [hp]
    exact branchConfigOfBytes_bytes hc
  obtain rfl := requestBranch_of_params hp
  unfold branchSetOwner
  rw [if_neg (Bool.eq_false_iff.mp he), hrecord]
  rfl

theorem branchControlOwner_of_params {r : Request} {b : BranchNo} {a : BranchAction} (s : State)
    (hp : r.params = [branchByte b, a.code]) :
    branchControlOwner r s = (bare .ok, s.withBranch b (a.apply s.bu[b])) := by
  have haction : actionOfByte (r.param 1) = some a := by simp [Request.param, hp, actionOfByte_code]
  unfold branchControlOwner
  rw [haction, requestBranch_of_params hp]
  rfl

/-! ### The thirteen bytes of BRANCH_GET (R100) -/

/-- Bit 0 reports the drop flag and bit 1 the insert flag. -/
theorem overrunBits_eq (drop insert : Bool) :
    ((if drop then 0x01 else 0x00) ||| (if insert then 0x02 else 0x00) : Byte)
      = BitVec.ofNat 8 (drop.toNat + 2 * insert.toNat) := by
  cases drop <;> cases insert <;> rfl

/-! ### A gated request that writes one branch -/

/-- A gated request whose owner writes one branch alone, with any answer but that of an executed CLOSE. -/
theorem requestStep_sessioned_withBranch {q : ReqName} {f : ReqFrame} {s : State} {b : BranchNo} {y : Branch}
    {rep : Reply} (h : TakesFrame q.code f s) (hc : q.code ≠ ReqName.code .capture)
    (hs : q.sessioned f.destination = true) (hses : PassesSession f (atFs s).me)
    (hcl : ¬(q = .closeSession ∧ rep.status = .ok))
    (hv : serve q (frameRequest q.code f .taker) (passedAtGate q.code f s)
      = (rep, (passedAtGate q.code f s).withBranch b y)) :
    requestStep q.code f s
      = answered q.code f rep.status rep.data
          (((atFs s).withMe (gated f rep.status rep.data (atFs s).me)).withBranch b y) := by
  rw [requestStep_sessioned h hc hs hses hv]
  unfold onMe cacheReply
  rw [if_neg hcl]
  rfl

/-! ### The rows -/

theorem exec_branchGet (f : ReqFrame) (s : State) : exec (.branchGet f) s = .next (requestStep 0x20 f s) := rfl
theorem exec_branchSet (f : ReqFrame) (s : State) : exec (.branchSet f) s = .next (requestStep 0x21 f s) := rfl

/-- The row of an action of BRANCH_CONTROL (R95). -/
def BranchAction.row : BranchAction → ReqFrame → Instr
  | .enable => .enable
  | .disable => .disable
  | .clearHold => .clearHold
  | .flushDrop => .flushDrop
  | .flushInsert => .flushInsert

theorem exec_branchAction (a : BranchAction) (f : ReqFrame) (s : State) :
    exec (a.row f) s = .next (rowStep (namesAction a f) .branchControl f s) := by
  cases a <;> rfl

section BranchGet
variable {f : ReqFrame} {s : State} (ht : TakesFrame 0x20 f s)
include ht

/-- BRANCH_GET executed (R100). -/
theorem branchGet_answered {b : BranchNo} (hp : f.params = [branchByte b]) (hroom : 13 ≤ f.room.toNat) :
    requestStep 0x20 f s = answered 0x20 f .ok (branchGetData (atFs s).bu[b])
      ((atFs s).withMe (heard f (atFs s).me)) := by
  have hok : paramsOk .branchGet (frameRequest 0x20 f .taker) = true :=
    (paramsOk_branchGet_iff _).mpr ⟨_, hp, (toNat_le_three_iff _).mpr ⟨b, rfl⟩⟩
  have hneed : roomNeeded .branchGet (frameRequest 0x20 f .taker) ≤ f.room.toNat := hroom
  exact requestStep_sessionless (q := .branchGet) ht (by decide) rfl
    ((serve_owner rfl hneed hok).trans (branchGetOwner_of_params (r := frameRequest 0x20 f .taker) _ hp))

theorem branchGet_roomShort (hroom : f.room.toNat < 13) :
    requestStep 0x20 f s = answered 0x20 f .roomShort [] ((atFs s).withMe (heard f (atFs s).me)) :=
  requestStep_sessionless_roomShort (q := .branchGet) ht (by decide) rfl hroom

theorem branchGet_badParam (hroom : 13 ≤ f.room.toNat) (hbad : ∀ v : Byte, f.params = [v] → 3 < v.toNat) :
    requestStep 0x20 f s = answered 0x20 f .badParam [] ((atFs s).withMe (heard f (atFs s).me)) := by
  have hnot : paramsOk .branchGet (frameRequest 0x20 f .taker) = false := by
    rw [Bool.eq_false_iff, Ne, paramsOk_branchGet_iff]
    rintro ⟨v, hp, hrange⟩
    exact absurd hrange (Nat.not_le.mpr (hbad v hp))
  exact requestStep_sessionless_badParam (q := .branchGet) ht (by decide) rfl hroom hnot

end BranchGet

section BranchSet
variable {f : ReqFrame} {s : State} (ht : TakesFrame 0x21 f s) (hses : PassesSession f (atFs s).me)
include ht hses

theorem branchSet_enabled {b : BranchNo} {c : BranchConfig} (hc : c.Valid) (hp : f.params = branchByte b :: c.bytes)
    (he : (atFs s).bu[b].enabled = true) :
    requestStep 0x21 f s
      = answered 0x21 f .branchEnabled [] ((atFs s).withMe (gated f .branchEnabled [] (atFs s).me)) :=
  requestStep_sessioned_unchanged (q := .branchSet) (rep := bare .branchEnabled) ht (by decide) rfl hses (by decide)
    ((serve_owner rfl (Nat.zero_le _) ((paramsOk_branchSet_iff _).mpr ⟨b, c, hc, hp⟩)).trans
      (branchSetOwner_enabled (r := frameRequest 0x21 f .taker) (s := passedAtGate 0x21 f s) hp he))

/-- BRANCH_SET executed (R99). -/
theorem branchSet_stored {b : BranchNo} {c : BranchConfig} (hc : c.Valid) (hp : f.params = branchByte b :: c.bytes)
    (he : (atFs s).bu[b].enabled = false) :
    requestStep 0x21 f s = answered 0x21 f .ok []
      (((atFs s).withMe (gated f .ok [] (atFs s).me)).withBranch b { (atFs s).bu[b] with config := c }) :=
  requestStep_sessioned_withBranch (q := .branchSet) (rep := bare .ok) ht (by decide) rfl hses (by decide)
    ((serve_owner rfl (Nat.zero_le _) ((paramsOk_branchSet_iff _).mpr ⟨b, c, hc, hp⟩)).trans
      (branchSetOwner_disabled (r := frameRequest 0x21 f .taker) (s := passedAtGate 0x21 f s) hc hp he))

theorem branchSet_badParam
    (hbad : ∀ (b : BranchNo) (c : BranchConfig), c.Valid → f.params ≠ branchByte b :: c.bytes) :
    requestStep 0x21 f s = answered 0x21 f .badParam [] ((atFs s).withMe (gated f .badParam [] (atFs s).me)) := by
  have hnot : paramsOk .branchSet (frameRequest 0x21 f .taker) = false := by
    rw [Bool.eq_false_iff, Ne, paramsOk_branchSet_iff]
    rintro ⟨b, c, hc, hp⟩
    exact hbad b c hc hp
  exact requestStep_sessioned_badParam (q := .branchSet) ht (by decide) rfl hses (Nat.zero_le _) hnot

end BranchSet

/-- BRANCH_CONTROL executed (R95): the row of an action takes the frame that names it, whatever state the branch is
in. -/
theorem branchAction_answered {f : ReqFrame} {s : State} (ht : TakesFrame 0x22 f s)
    (hses : PassesSession f (atFs s).me) {b : BranchNo} {a : BranchAction} (hp : f.params = [branchByte b, a.code]) :
    exec (a.row f) s = .next (answered 0x22 f .ok []
      (((atFs s).withMe (gated f .ok [] (atFs s).me)).withBranch b (a.apply (atFs s).bu[b]))) := by
  have hmine : namesAction a f = true := by simp [namesAction, hp]
  rw [exec_branchAction, hmine]
  exact congrArg _ (requestStep_sessioned_withBranch (q := .branchControl) (rep := bare .ok) ht (by decide) rfl hses
    (by decide) ((serve_owner rfl (Nat.zero_le _) (paramsOk_branchControl hp)).trans
      (branchControlOwner_of_params (r := frameRequest 0x22 f .taker) (passedAtGate 0x22 f s) hp)))

/-! ### The statements -/

/-- Settles O49, by the answers of the two rows: executed, refused for the branch's state, for the Room and for the
parameters. -/
theorem branchRecordIsReadAndSet : Obligations.BranchRecordIsReadAndSet := by
  rintro f s _ b _ record rfl rfl hrecord
  obtain rfl : record = BranchConfig.bytes := funext fun c => (hrecord c).trans c.bytes_eq.symm
  refine ⟨?get, ?set, ?getRefused, ?setBadParam⟩
  case get =>
    intro ht hp hroom
    rw [← overrunBits_eq]
    exact (exec_branchGet f s).trans (congrArg _ (branchGet_answered ht hp hroom))
  case set =>
    intro c ht hses hp hd hl
    exact ⟨fun he => (exec_branchSet f s).trans (congrArg _ (branchSet_enabled ht hses ⟨hd, hl⟩ hp he)),
      fun he => (exec_branchSet f s).trans (congrArg _ (branchSet_stored ht hses ⟨hd, hl⟩ hp he))⟩
  case getRefused =>
    intro ht
    exact ⟨fun hroom => (exec_branchGet f s).trans (congrArg _ (branchGet_roomShort ht hroom)),
      fun hroom hbad => (exec_branchGet f s).trans (congrArg _ (branchGet_badParam ht hroom hbad))⟩
  case setBadParam =>
    intro ht hses hbad
    exact (exec_branchSet f s).trans
      (congrArg _ (branchSet_badParam ht hses fun b c ⟨hd, hl⟩ => hbad b c hd hl))

/-- Settles O50, by the one answer of BRANCH_CONTROL at each of its five actions. -/
theorem branchControlActs : Obligations.BranchControlActs := by
  rintro f s _ b _ done _ rfl ht hses rfl hdone rfl
  have acts : ∀ a : BranchAction, f.params = [branchByte b, a.code] →
      exec (a.row f) s = .next (done (a.apply (atFs s).bu[b])) := fun a hp => by
    rw [hdone]
    exact branchAction_answered ht hses hp
  exact ⟨acts .enable, acts .disable, acts .clearHold, acts .flushDrop, acts .flushInsert⟩

end Sys2Proof.Machine
end

section
/-!
IDENTIFY and NODE_GET (R132, R133), the two sessionless requests that read without a parameter and that ME owns. Each
reply is read after the request is heard, which writes nothing but the inactivity count, and no byte of either reply
reports that count: so the bytes are those of the state in which the frame began.
-/

namespace Sys2Proof.Machine

/-! ### Parameter checks (step 6) -/

theorem paramsOk_identify_iff (r : Request) : paramsOk .identify r = true ↔ r.params = [] := List.isEmpty_iff
theorem paramsOk_nodeGet_iff (r : Request) : paramsOk .nodeGet r = true ↔ r.params = [] := List.isEmpty_iff

/-! ### What the two owners read of a request that is heard (R124) -/

theorem heardAtGate_node (code : Byte) (f : ReqFrame) (s : State) :
    (heardAtGate code f s).me.node = (atFs s).me.node := rfl

/-- IDENTIFY reports the session's state and owner, never the inactivity count. -/
theorem identifyData_heardAtGate (code : Byte) (f : ReqFrame) (s : State) :
    identifyData (heardAtGate code f s) = identifyData (atFs s) := rfl

theorem owner_identify_heardAtGate (r : Request) (code : Byte) (f : ReqFrame) (s : State) :
    owner .identify r (heardAtGate code f s) = (⟨.ok, identifyData (atFs s)⟩, heardAtGate code f s) := by
  rw [← identifyData_heardAtGate code f s]
  rfl

theorem owner_nodeGet_heardAtGate (r : Request) (code : Byte) (f : ReqFrame) (s : State) :
    owner .nodeGet r (heardAtGate code f s) = (⟨.ok, (atFs s).me.node.bytes⟩, heardAtGate code f s) := by
  rw [← heardAtGate_node code f s]
  rfl

/-! ### The bytes of IDENTIFY that report the session (R132) -/

/-- Bytes 5 and 6 of a CLOSED session are 00h. -/
theorem identifyData_closed {s : State} (h : s.me.session = none) :
    identifyData s =
      [0x41, 0x01, s.me.address, if s.ct.coasting then 0x03 else 0x02, 0x00, 0x00, s.me.restartCause.code,
       BitVec.ofNat 8 s.mu.live.length, s.mu.switch.state.code, BitVec.ofNat 8 s.eq.events.length] := by
  rw [identifyData, h]
  rfl

/-- Bytes 5 and 6 of an OPEN session are 01h and its owner. -/
theorem identifyData_open {s : State} {k : Session} (h : s.me.session = some k) :
    identifyData s =
      [0x41, 0x01, s.me.address, if s.ct.coasting then 0x03 else 0x02, 0x01, k.owner, s.me.restartCause.code,
       BitVec.ofNat 8 s.mu.live.length, s.mu.switch.state.code, BitVec.ofNat 8 s.eq.events.length] := by
  rw [identifyData, h]
  rfl

/-! ### The rows -/

theorem exec_identify (f : ReqFrame) (s : State) : exec (.identify f) s = .next (requestStep 0x01 f s) := rfl
theorem exec_nodeGet (f : ReqFrame) (s : State) : exec (.nodeGet f) s = .next (requestStep 0x06 f s) := rfl

/-- IDENTIFY executed (R132). -/
theorem identify_answered {f : ReqFrame} {s : State} (ht : TakesFrame 0x01 f s) (hp : f.params = [])
    (hroom : 10 ≤ f.room.toNat) :
    requestStep 0x01 f s = answered 0x01 f .ok (identifyData (atFs s)) ((atFs s).withMe (heard f (atFs s).me)) := by
  have hserve := serve_owner (q := .identify) (r := frameRequest 0x01 f .taker) (s := heardAtGate 0x01 f s) rfl hroom
    ((paramsOk_identify_iff _).mpr hp)
  rw [owner_identify_heardAtGate] at hserve
  exact requestStep_sessionless (q := .identify) ht (by decide) rfl hserve

/-- NODE_GET executed (R133). -/
theorem nodeGet_answered {f : ReqFrame} {s : State} (ht : TakesFrame 0x06 f s) (hp : f.params = [])
    (hroom : 8 ≤ f.room.toNat) :
    requestStep 0x06 f s = answered 0x06 f .ok (atFs s).me.node.bytes ((atFs s).withMe (heard f (atFs s).me)) := by
  have hserve := serve_owner (q := .nodeGet) (r := frameRequest 0x06 f .taker) (s := heardAtGate 0x06 f s) rfl hroom
    ((paramsOk_nodeGet_iff _).mpr hp)
  rw [owner_nodeGet_heardAtGate] at hserve
  exact requestStep_sessionless (q := .nodeGet) ht (by decide) rfl hserve

/-! ### The statement -/

/-- Settles O38, by the answer of each row: IDENTIFY with the session CLOSED and with it OPEN, and NODE_GET. -/
theorem identifyAndNodeGetReply : Obligations.IdentifyAndNodeGetReply := by
  rintro f s _ rfl hp
  refine ⟨?identify, ?nodeGet⟩
  case identify =>
    intro ht hroom
    have hreply := identify_answered ht hp hroom
    cases hsession : (atFs s).me.session with
    | none =>
      rw [identifyData_closed hsession] at hreply
      exact (exec_identify f s).trans (congrArg _ hreply)
    | some k =>
      rw [identifyData_open hsession] at hreply
      exact (exec_identify f s).trans (congrArg _ hreply)
  case nodeGet =>
    intro ht hroom
    exact (exec_nodeGet f s).trans (congrArg _ (nodeGet_answered ht hp hroom))

end Sys2Proof.Machine
end

section
/-!
POLL and READ_COUNTERS (R142, R168), two sessionless requests that read without changing what they read. POLL's records
are the oldest ones of the Event Queue, as many as fit the Room: that is proved along the queue, once, before the two
rows.
-/

namespace Sys2Proof.Machine

/-! ### The records of a POLL (R142) -/

/-- Byte 2 of a record holds the presence of a cycle number in bit 7 and the detail length below it. -/
theorem EventRecord.bytes_eq (e : EventRecord) :
    e.bytes = [e.sequence, e.kind.code,
      BitVec.ofNat 8 ((if e.cycle.isSome then 0x80 else 0) + e.detail.length), e.cycle.getD 0] ++ e.detail := by
  unfold EventRecord.bytes
  cases e.cycle with
  | none => simp [natByte]
  | some _ => rfl

theorem EventRecord.length_bytes (e : EventRecord) : e.bytes.length = 4 + e.detail.length := by
  rw [e.bytes_eq, List.length_append]
  rfl

/-- The oldest `k` records are as many as fit a room: they fit, and the record after them, where there is one, does not
fit in what is left. -/
structure IsLongestPrefix (room : Nat) (es : List EventRecord) (k : Nat) : Prop where
  le_length : k ≤ es.length
  fits : ((es.take k).flatMap EventRecord.bytes).length ≤ room
  next_too_long : ∀ e, es[k]? = some e → room < ((es.take k).flatMap EventRecord.bytes).length + e.bytes.length

/-- A record that fits goes before as many of the records after it as fit in what it leaves. -/
theorem IsLongestPrefix.cons {room k : Nat} {e : EventRecord} {rest : List EventRecord} (hfit : e.bytes.length ≤ room)
    (h : IsLongestPrefix (room - e.bytes.length) rest k) : IsLongestPrefix room (e :: rest) (k + 1) := by
  obtain ⟨hle, hfits, hnext⟩ := h
  refine ⟨Nat.succ_le_succ hle, ?_, fun e' he' => ?_⟩ <;>
    rw [List.take_succ_cons, List.flatMap_cons, List.length_append]
  · omega
  · have := hnext e' he'
    omega

/-- POLL sends as many of the oldest records as fit, and so nothing after a record that does not fit (R142). -/
theorem pollRecords_longestPrefix (room : Nat) (es : List EventRecord) :
    ∃ k, IsLongestPrefix room es k ∧ pollRecords room es = (es.take k).flatMap EventRecord.bytes := by
  induction es generalizing room with
  | nil => exact ⟨0, ⟨le_rfl, Nat.zero_le _, fun _ h => nomatch h⟩, rfl⟩
  | cons e rest ih =>
    by_cases hfit : e.bytes.length ≤ room
    · obtain ⟨k, hk, hrest⟩ := ih (room - e.bytes.length)
      refine ⟨k + 1, hk.cons hfit, ?_⟩
      rw [pollRecords, if_pos hfit, hrest]
      rfl
    · refine ⟨0, ⟨Nat.zero_le _, Nat.zero_le _, ?_⟩, if_neg hfit⟩
      rintro _ ⟨rfl⟩
      simpa using hfit

/-- The reply data of a POLL of a queue, in a Room (R142). -/
def pollData (room : Nat) (es : List EventRecord) : List Byte := natByte es.length :: pollRecords (room - 1) es

/-! ### The values of a READ_COUNTERS (R168) -/

/-- The reply data of a READ_COUNTERS of a capture record, from an index on (R168). -/
def readCountersData (c : CaptureRecord) (first n : Nat) : List Byte :=
  [c.number, boolByte c.cycle.isSome, c.cycle.getD 0]
    ++ ((c.values.toList.drop first).take n).flatMap fun w => [hiByte w, loByte w]

theorem readCountersOwner_of_params {r : Request} {first n : Byte} (s : State) (hp : r.params = [first, n]) :
    readCountersOwner r s = (⟨.ok, readCountersData s.cb.capture first.toNat n.toNat⟩, s) := by
  simp [readCountersOwner, readCountersData, Request.param, hp]

/-! ### Parameter checks (step 6) -/

theorem paramsOk_poll_iff (r : Request) : paramsOk .poll r = true ↔ r.params = [] := List.isEmpty_iff

theorem paramsOk_readCounters_iff (r : Request) :
    paramsOk .readCounters r = true ↔ ∃ first n : Byte, r.params = [first, n] ∧ first.toNat ≤ 23 ∧ 1 ≤ n.toNat
      ∧ n.toNat ≤ 24 ∧ first.toNat + n.toNat ≤ 24 := by
  simp only [paramsOk, decide_eq_true_eq, List.length_eq_two, Request.param]
  constructor
  · rintro ⟨⟨first, n, hp⟩, hrange⟩
    exact ⟨first, n, hp, by simpa [hp] using hrange⟩
  · rintro ⟨first, n, hp, hrange⟩
    exact ⟨⟨first, n, hp⟩, by simpa [hp] using hrange⟩

/-! ### The rows -/

theorem exec_poll (f : ReqFrame) (s : State) : exec (.poll f) s = .next (requestStep 0x28 f s) := rfl
theorem exec_readCounters (f : ReqFrame) (s : State) : exec (.readCounters f) s = .next (requestStep 0x39 f s) := rfl

section Poll
variable {f : ReqFrame} {s : State} (ht : TakesFrame 0x28 f s)
include ht

/-- POLL executed (R142). -/
theorem poll_answered (hp : f.params = []) (hroom : 1 ≤ f.room.toNat) :
    requestStep 0x28 f s = answered 0x28 f .ok (pollData f.room.toNat (atFs s).eq.events)
      ((atFs s).withMe (heard f (atFs s).me)) :=
  requestStep_sessionless (q := .poll) ht (by decide) rfl (serve_owner rfl hroom ((paramsOk_poll_iff _).mpr hp))

theorem poll_roomShort (hroom : f.room.toNat < 1) :
    requestStep 0x28 f s = answered 0x28 f .roomShort [] ((atFs s).withMe (heard f (atFs s).me)) :=
  requestStep_sessionless_roomShort (q := .poll) ht (by decide) rfl hroom

theorem poll_badParam (hroom : 1 ≤ f.room.toNat) (hp : f.params ≠ []) :
    requestStep 0x28 f s = answered 0x28 f .badParam [] ((atFs s).withMe (heard f (atFs s).me)) :=
  requestStep_sessionless_badParam (q := .poll) ht (by decide) rfl hroom
    (Bool.eq_false_iff.mpr (mt (paramsOk_poll_iff _).mp hp))

end Poll

section ReadCounters
variable {f : ReqFrame} {s : State} (ht : TakesFrame 0x39 f s)
include ht

/-- READ_COUNTERS executed (R168). -/
theorem readCounters_answered {first n : Byte} (hp : f.params = [first, n]) (h23 : first.toNat ≤ 23)
    (h1 : 1 ≤ n.toNat) (h24 : first.toNat + n.toNat ≤ 24) (hroom : 3 + 2 * n.toNat ≤ f.room.toNat) :
    requestStep 0x39 f s = answered 0x39 f .ok (readCountersData (atFs s).cb.capture first.toNat n.toNat)
      ((atFs s).withMe (heard f (atFs s).me)) := by
  have hneed : roomNeeded .readCounters (frameRequest 0x39 f .taker) ≤ f.room.toNat := by
    simpa [roomNeeded, frameRequest, hp] using hroom
  have hok : paramsOk .readCounters (frameRequest 0x39 f .taker) = true :=
    (paramsOk_readCounters_iff _).mpr ⟨first, n, hp, h23, h1, by omega, h24⟩
  exact requestStep_sessionless (q := .readCounters) ht (by decide) rfl
    ((serve_owner rfl hneed hok).trans (readCountersOwner_of_params (r := frameRequest 0x39 f .taker) _ hp))

theorem readCounters_roomShort (hroom : f.room.toNat < 3 + 2 * f.params[1]?.elim 0 BitVec.toNat) :
    requestStep 0x39 f s = answered 0x39 f .roomShort [] ((atFs s).withMe (heard f (atFs s).me)) :=
  requestStep_sessionless_roomShort (q := .readCounters) ht (by decide) rfl hroom

theorem readCounters_badParam (hroom : 3 + 2 * f.params[1]?.elim 0 BitVec.toNat ≤ f.room.toNat)
    (hbad : ∀ first n : Byte, f.params = [first, n] →
      ¬(first.toNat ≤ 23 ∧ 1 ≤ n.toNat ∧ n.toNat ≤ 24 ∧ first.toNat + n.toNat ≤ 24)) :
    requestStep 0x39 f s = answered 0x39 f .badParam [] ((atFs s).withMe (heard f (atFs s).me)) := by
  have hnot : paramsOk .readCounters (frameRequest 0x39 f .taker) = false := by
    rw [Bool.eq_false_iff, Ne, paramsOk_readCounters_iff]
    rintro ⟨first, n, hp, hrange⟩
    exact hbad first n hp hrange
  exact requestStep_sessionless_badParam (q := .readCounters) ht (by decide) rfl hroom hnot

end ReadCounters

/-! ### The statement -/

/-- Settles O51, by the three answers of each row: executed, where POLL's records are as many of the oldest as fit,
refused for its Room, refused for its parameters. -/
theorem pollAndReadCountersReply : Obligations.PollAndReadCountersReply := by
  rintro f s _ rfl
  refine ⟨?poll, ?readCounters, ?pollRefused, ?readCountersRefused⟩
  case poll =>
    intro bytes ht hp hroom hbytes
    obtain rfl : bytes = EventRecord.bytes := funext fun e => (hbytes e).trans e.bytes_eq.symm
    obtain ⟨k, ⟨hle, hfits, hnext⟩, hrecords⟩ := pollRecords_longestPrefix (f.room.toNat - 1) (atFs s).eq.events
    have hreply := poll_answered ht hp hroom
    rw [pollData, hrecords] at hreply
    refine ⟨k, hle, by omega, fun e he => ?_, (exec_poll f s).trans (congrArg _ hreply)⟩
    have := hnext e he
    rw [e.length_bytes] at this
    omega
  case readCounters =>
    intro first n ht hp h23 h1 h24 hroom
    exact (exec_readCounters f s).trans (congrArg _ (readCounters_answered ht hp h23 h1 h24 hroom))
  case pollRefused =>
    intro ht
    exact ⟨fun hroom => (exec_poll f s).trans (congrArg _ (poll_roomShort ht (by omega))),
      fun hroom hp => (exec_poll f s).trans (congrArg _ (poll_badParam ht hroom hp))⟩
  case readCountersRefused =>
    intro ht
    exact ⟨fun hroom => (exec_readCounters f s).trans (congrArg _ (readCounters_roomShort ht hroom)),
      fun hroom hbad => (exec_readCounters f s).trans (congrArg _ (readCounters_badParam ht hroom hbad))⟩

end Sys2Proof.Machine
end

section
/-!
TEST_START and TEST_STOP (R159, R160). The two parameter bytes of a TEST_START are the codes of a mode and of a length,
and no other bytes pass step 6; then come what the two owners answer, what a gated request that writes the Pattern Unit
leaves, and the statement.
-/

namespace Sys2Proof.Machine

/-! ### The bytes of a mode and of a length (R159) -/

theorem runModeOfByte_eq_some_iff (v : Byte) (m : RunMode) : runModeOfByte v = some m ↔ v = m.code := by
  unfold runModeOfByte
  constructor
  · intro h
    split_ifs at h with h0 h1 <;> cases h <;> assumption
  · rintro rfl
    cases m <;> rfl

theorem runLengthOfByte_eq_some_iff (v : Byte) (l : RunLength) : runLengthOfByte v = some l ↔ v = l.code := by
  unfold runLengthOfByte
  constructor
  · intro h
    split_ifs at h with h0 h1 h2 <;> cases h <;> assumption
  · rintro rfl
    cases l <;> rfl

theorem RunMode.code_toNat_le_one (m : RunMode) : m.code.toNat ≤ 1 := by cases m <;> decide

theorem RunLength.code_toNat_le_two (l : RunLength) : l.code.toNat ≤ 2 := by cases l <;> decide

/-! ### Parameter checks (step 6) -/

/-- TEST_START takes the byte of a mode and the byte of a length. -/
theorem paramsOk_testStart_iff (r : Request) :
    paramsOk .testStart r = true ↔ ∃ (m : RunMode) (l : RunLength), r.params = [m.code, l.code] := by
  simp only [paramsOk, Bool.and_eq_true, decide_eq_true_eq, List.length_eq_two, Option.isSome_iff_exists,
    runModeOfByte_eq_some_iff, runLengthOfByte_eq_some_iff, Request.param]
  constructor
  · rintro ⟨⟨⟨x, y, hp⟩, m, hm⟩, l, hl⟩
    exact ⟨m, l, by simpa [hp] using And.intro hm hl⟩
  · rintro ⟨m, l, hp⟩
    exact ⟨⟨⟨_, _, hp⟩, m, by simp [hp]⟩, l, by simp [hp]⟩

theorem paramsOk_testStop_iff (r : Request) : paramsOk .testStop r = true ↔ r.params = [] := List.isEmpty_iff

/-! ### Owners (step 7) -/

/-- The Status of a TEST_START that is executed: the end of a TIMED run is reported later (R159). -/
def startStatus (m : RunMode) : Status := if m = .timed then .accepted else .ok

theorem testStartOwner_running {s : State} (h : s.pu.run = .running) (r : Request) :
    testStartOwner r s = (bare .busy, s) := if_pos h

theorem testStartOwner_checkerOff {s : State} (h : s.pu.run ≠ .running) (hc : s.pu.config.checkerOn = false)
    (r : Request) : testStartOwner r s = (bare .badParam, s) := by
  simp [testStartOwner, h, hc]

theorem testStartOwner_starts {r : Request} {s : State} {m : RunMode} {l : RunLength}
    (hp : r.params = [m.code, l.code]) (h : s.pu.run ≠ .running) (hc : s.pu.config.checkerOn = true) :
    testStartOwner r s = (bare (startStatus m), s.withPu (startRun m l s.pu)) := by
  have hm : runModeOfByte (r.param 0) = some m := (runModeOfByte_eq_some_iff _ _).mpr (by simp [Request.param, hp])
  have hl : runLengthOfByte (r.param 1) = some l := (runLengthOfByte_eq_some_iff _ _).mpr (by simp [Request.param, hp])
  simp [testStartOwner, startStatus, h, hc, hm, hl]

/-- The unit after a TEST_STOP: a RUNNING run is DONE with the stopped flag set, any other record stands (R160). -/
def stopRun (p : PatternUnit) : PatternUnit := if p.run = .running then { p with run := .done, stopped := true } else p

/-- Both branches in one: the reply is OK whatever the run state. -/
theorem testStopOwner_eq (s : State) : testStopOwner s = (bare .ok, s.withPu (stopRun s.pu)) := by
  unfold testStopOwner stopRun
  by_cases h : s.pu.run = .running
  · simp only [if_pos h]
  · simp only [if_neg h]
    rfl

/-! ### A gated request that writes the Pattern Unit -/

theorem passedAtGate_pu (code : Byte) (f : ReqFrame) (s : State) : (passedAtGate code f s).pu = (atFs s).pu := rfl

/-- A gated request whose owner writes the Pattern Unit alone, with any answer but that of an executed CLOSE. -/
theorem requestStep_sessioned_withPu {q : ReqName} {f : ReqFrame} {s : State} {p : PatternUnit} {rep : Reply}
    (h : TakesFrame q.code f s) (hc : q.code ≠ ReqName.code .capture) (hs : q.sessioned f.destination = true)
    (hses : PassesSession f (atFs s).me) (hcl : ¬(q = .closeSession ∧ rep.status = .ok))
    (hv : serve q (frameRequest q.code f .taker) (passedAtGate q.code f s)
      = (rep, (passedAtGate q.code f s).withPu p)) :
    requestStep q.code f s
      = answered q.code f rep.status rep.data
          (((atFs s).withMe (gated f rep.status rep.data (atFs s).me)).withPu p) := by
  rw [requestStep_sessioned h hc hs hses hv]
  unfold onMe cacheReply
  rw [if_neg hcl]
  rfl

/-! ### The rows -/

theorem exec_testStart (f : ReqFrame) (s : State) : exec (.testStart f) s = .next (requestStep 0x31 f s) := rfl
theorem exec_testStop (f : ReqFrame) (s : State) : exec (.testStop f) s = .next (requestStep 0x32 f s) := rfl

section TestStart
variable {f : ReqFrame} {s : State} (ht : TakesFrame 0x31 f s) (hses : PassesSession f (atFs s).me)

theorem serve_testStart {m : RunMode} {l : RunLength} (hp : f.params = [m.code, l.code]) :
    serve .testStart (frameRequest 0x31 f .taker) (passedAtGate 0x31 f s)
      = testStartOwner (frameRequest 0x31 f .taker) (passedAtGate 0x31 f s) :=
  serve_owner rfl (Nat.zero_le _) ((paramsOk_testStart_iff _).mpr ⟨m, l, hp⟩)

include ht hses

theorem testStart_busy {m : RunMode} {l : RunLength} (hp : f.params = [m.code, l.code])
    (h : (atFs s).pu.run = .running) :
    requestStep 0x31 f s = answered 0x31 f .busy [] ((atFs s).withMe (gated f .busy [] (atFs s).me)) :=
  requestStep_sessioned_unchanged (q := .testStart) (rep := bare .busy) ht (by decide) rfl hses (by decide)
    ((serve_testStart hp).trans (testStartOwner_running (s := passedAtGate 0x31 f s) h _))

theorem testStart_checkerOff {m : RunMode} {l : RunLength} (hp : f.params = [m.code, l.code])
    (h : (atFs s).pu.run ≠ .running) (hc : (atFs s).pu.config.checkerOn = false) :
    requestStep 0x31 f s = answered 0x31 f .badParam [] ((atFs s).withMe (gated f .badParam [] (atFs s).me)) :=
  requestStep_sessioned_unchanged (q := .testStart) (rep := bare .badParam) ht (by decide) rfl hses (by decide)
    ((serve_testStart hp).trans (testStartOwner_checkerOff (s := passedAtGate 0x31 f s) h hc _))

/-- TEST_START executed (R159). -/
theorem testStart_started {m : RunMode} {l : RunLength} (hp : f.params = [m.code, l.code])
    (h : (atFs s).pu.run ≠ .running) (hc : (atFs s).pu.config.checkerOn = true) :
    requestStep 0x31 f s = answered 0x31 f (startStatus m) []
      (((atFs s).withMe (gated f (startStatus m) [] (atFs s).me)).withPu (startRun m l (atFs s).pu)) := by
  have howner := testStartOwner_starts (r := frameRequest 0x31 f .taker) (s := passedAtGate 0x31 f s) hp h hc
  rw [passedAtGate_pu] at howner
  exact requestStep_sessioned_withPu (q := .testStart) (rep := bare (startStatus m)) ht (by decide) rfl hses
    (fun hclose => ReqName.noConfusion hclose.1) ((serve_testStart hp).trans howner)

theorem testStart_badParam (hbad : ∀ (m : RunMode) (l : RunLength), f.params ≠ [m.code, l.code]) :
    requestStep 0x31 f s = answered 0x31 f .badParam [] ((atFs s).withMe (gated f .badParam [] (atFs s).me)) := by
  have hnot : paramsOk .testStart (frameRequest 0x31 f .taker) = false := by
    rw [Bool.eq_false_iff, Ne, paramsOk_testStart_iff]
    rintro ⟨m, l, hp⟩
    exact hbad m l hp
  exact requestStep_sessioned_badParam (q := .testStart) ht (by decide) rfl hses (Nat.zero_le _) hnot

end TestStart

section TestStop
variable {f : ReqFrame} {s : State} (ht : TakesFrame 0x32 f s) (hses : PassesSession f (atFs s).me)
include ht hses

/-- TEST_STOP executed (R160), whatever the run state. -/
theorem testStop_answered (hp : f.params = []) :
    requestStep 0x32 f s = answered 0x32 f .ok []
      (((atFs s).withMe (gated f .ok [] (atFs s).me)).withPu (stopRun (atFs s).pu)) := by
  have hserve : serve .testStop (frameRequest 0x32 f .taker) (passedAtGate 0x32 f s)
      = testStopOwner (passedAtGate 0x32 f s) :=
    serve_owner rfl (Nat.zero_le _) ((paramsOk_testStop_iff _).mpr hp)
  rw [testStopOwner_eq, passedAtGate_pu] at hserve
  exact requestStep_sessioned_withPu (q := .testStop) (rep := bare .ok) ht (by decide) rfl hses (by decide) hserve

theorem testStop_badParam (hp : f.params ≠ []) :
    requestStep 0x32 f s = answered 0x32 f .badParam [] ((atFs s).withMe (gated f .badParam [] (atFs s).me)) :=
  requestStep_sessioned_badParam (q := .testStop) ht (by decide) rfl hses (Nat.zero_le _)
    (Bool.eq_false_iff.mpr (mt (paramsOk_testStop_iff _).mp hp))

end TestStop

/-! ### The statement -/

/-- Settles O54, by the answers of the two rows: TEST_START refused while a run is RUNNING, refused for a checker that
is off, executed, and refused for its parameters; TEST_STOP refused for a parameter, and executed. -/
theorem testRunsStartAndStop : Obligations.TestRunsStartAndStop := by
  rintro f s _ _ rfl hses rfl
  refine ⟨?start, ?startBadParam, ?stopBadParam, ?stop⟩
  case start =>
    intro m l ht hp
    have hcodes : f.params = [m.code, l.code] := hp
    exact ⟨fun h => (exec_testStart f s).trans (congrArg _ (testStart_busy ht hses hcodes h)),
      fun h hc => (exec_testStart f s).trans (congrArg _ (testStart_checkerOff ht hses hcodes h hc)),
      fun h hc => (exec_testStart f s).trans (congrArg _ (testStart_started ht hses hcodes h hc))⟩
  case startBadParam =>
    intro ht hbad
    exact (exec_testStart f s).trans (congrArg _ (testStart_badParam ht hses fun m l hp =>
      hbad _ _ hp ⟨m.code_toNat_le_one, l.code_toNat_le_two⟩))
  case stopBadParam =>
    intro ht hp
    exact (exec_testStop f s).trans (congrArg _ (testStop_badParam ht hses hp))
  case stop =>
    intro ht hp
    exact (exec_testStop f s).trans (congrArg _ (testStop_answered ht hses hp))

end Sys2Proof.Machine
end

section
/-!
What a step can do, said once (R13 to R172). Each block has a relation of the changes it can undergo, with what holds
when it does; `WorkMove` is one such change of the state, `Moves` a run of them, and `step_moves` says that every step
is a run of moves. A law of the state is then kept by every step as soon as every single move keeps it.
-/

namespace Sys2Proof.Machine
open Relation

/-! ### The changes of each block -/

/-- What the Event Queue undergoes: a post, the emptying of RESTART, an ACK (R141, R144, R147). -/
inductive EventMove (q : EventQueue) : EventQueue → Prop
  | post (cycle : Option Byte) (p : Post) : EventMove q (postTo q cycle p)
  | restarted (cause : RestartCause) (abandoned : Bool) (cycle : Option Byte) :
      EventMove q (EventQueue.restarted cause abandoned cycle)
  | acked {k : Byte} {rest : List EventRecord} (h : newerThan k q.events = some rest) :
      EventMove q { q with events := rest }

/-- What the Map Unit undergoes: the notices, RESTART, the fallback action and the requests that write it (R27, R41 to
R43, R66, R69 to R76, R78). -/
inductive MapMove (m : MapUnit) : MapUnit → Prop
  | noticed (n : Byte) (jump : Bool) : MapMove m (switchNotice n jump m).1
  | lockLost : MapMove m (switchLockLost m).1
  | restarted : MapMove m (switchRestart m)
  | bootstrapped : MapMove m (loadBootstrap m)
  | written {es : List Entry} (first : Nat) (hi : m.switch.state = .idle) (hes : ∀ e ∈ es, e ≠ .guard) :
      MapMove m { m with pendingMap :=
        { m.pendingMap with entries := storeEntries m.pendingMap.entries first es } }
  | lengthSet {n : Nat} (hi : m.switch.state = .idle) (h4 : 4 ≤ n) (h120 : n ≤ 120) :
      MapMove m { m with pendingMap := { m.pendingMap with length := n } }
  | copied (hi : m.switch.state = .idle) : MapMove m { m with pendingMap := m.live }
  | armed {r : SwitchRecord} (hi : m.switch.state = .idle) (hr : r.state = .armed)
      (hs : hasService (merged m r.groups) = true) : MapMove m { m with switch := r }
  | cancelled (ha : m.switch.state = .armed) :
      MapMove m { m with switch := endRecord m.switch .cancelled .none }

/-- What a Branch Unit undergoes (R58, R59, R83 to R99). -/
inductive BranchMove (x : Branch) : Branch → Prop
  | line (he : x.enabled = true) (l : ReceiverLine) : BranchMove x { x with line := l }
  | sent (he : x.enabled = true) : BranchMove x (popDrop x)
  | stored (he : x.enabled = true) (hq : queueFull x.dropQueue = false) (v : Byte) : BranchMove x (storeDrop v x)
  | dropReported (he : x.enabled = true) : BranchMove x { x with dropReported := true }
  | received (he : x.enabled = true) (v : Option Byte) : BranchMove x ((x.judge v).apply x)
  | inserted (he : x.enabled = true) {v : Byte} {rest : List Byte} (hq : x.insertQueue = v :: rest) :
      BranchMove x { x with insertQueue := rest, insertReported := x.insertReported && !rest.isEmpty }
  | starved (he : x.enabled = true) (hq : x.insertQueue = []) : BranchMove x { x with side := fillingSide x.config }
  | controlled (a : BranchAction) : BranchMove x (a.apply x)
  | configured {c : BranchConfig} (he : x.enabled = false) (hc : c.Valid) : BranchMove x { x with config := c }
  | stopped : BranchMove x (stopBranch x)

/-- The context after a header character that is taken (R107 to R109). -/
def headerContext (address v : Byte) (c : FrameContext) : FrameContext :=
  match c.place with
  | 0 => { coverByte v c with destination := some v }
  | 1 => { coverByte v c with code := some v }
  | 2 => { c with place := c.place + 1, claim := some v,
                  role := decideRole (c.destination.getD 0) (c.code.getD 0) v address }
  | 3 => { coverByte v c with controller := some v }
  | 4 => { coverByte v c with session := some v }
  | 5 => { coverByte v c with sequence := some v }
  | 6 => { coverByte v c with room := some v }
  | _ => afterLength v c

/-- What the frame in passage undergoes, for a station address (R105 to R118). -/
inductive FrameMove (address : Byte) (c : FrameContext) : FrameContext → Prop
  | begun : FrameMove address c (beginContext c)
  | ended : FrameMove address c (endContext c)
  | abandoned (code : Byte) (f : ReqFrame) : FrameMove address c (endContext (malformedContext code f c))
  | header {v : Byte} (hp : c.parser = .header) (hv : 6 ≤ c.place → v.toNat ≤ 32) :
      FrameMove address c (headerContext address v c)
  | param (hp : c.parser = .params) (v : Byte) : FrameMove address c (takeParam v c)
  | checkHigh (hp : c.parser = .reqCheck) (v : Byte) : FrameMove address c { c with checkHigh := some v, place := 1 }
  | checked (hp : c.parser = .reqCheck) (v : Byte) : FrameMove address c (checkTaken v c)
  | turned (hp : c.parser = .turn) : FrameMove address c (takeTurn c)
  | replied (hp : c.parser = .reply) : FrameMove address c (takeReply c)
  | held (executed : Bool) (reply : Option PendingReply) :
      FrameMove address c { c with executed := executed, pendingReply := reply }
  | framed {code : Byte} {f : ReqFrame} (hr : f.room.toNat ≤ 32) (hl : f.params.length ≤ 32) :
      FrameMove address c (frameContext code f (decideRole f.destination code f.claim address))

/-- What the Executive undergoes, for the frame in passage (R124 to R137). -/
inductive ExecutiveMove (c : FrameContext) (m : Management) : Management → Prop
  | cause (x : RestartCause) : ExecutiveMove c m { m with restartCause := x }
  | restarted : ExecutiveMove c m { closedSession m with restartCause := .request, deferredRestart := false }
  | closed : ExecutiveMove c m (closedSession m)
  | noticed : ExecutiveMove c m (sessionNotice m).1
  | touched (r : Request) : ExecutiveMove c m (touchSession r m)
  | assigned {a : Byte} (h1 : 1 ≤ a.toNat) (h239 : a.toNat ≤ 239) : ExecutiveMove c m { m with address := a }
  | opened (hr : c.role = .taker) (hc : c.code = some 0x03) (k : Byte) : ExecutiveMove c m (openedSession k m)
  | settings {n : NodeSettings} (hn : n.valid = true) : ExecutiveMove c m { m with node := n }
  | deferred : ExecutiveMove c m { m with deferredRestart := true }
  | cached (hs : m.session.isSome = true) (q : Option Byte) (rep : Option Reply) :
      ExecutiveMove c m { m with lastSequence := q, cache := rep }

/-- What the Pattern Unit undergoes (R151 to R162). -/
inductive PatternMove (p : PatternUnit) : PatternUnit → Prop
  | element (e : Option Byte) : PatternMove p (generate (checkElement p e).1).2
  | lockLost : PatternMove p (patternLockLost p)
  | cleared : PatternMove p (clearRun p)
  | configured {c : PatternConfig} (h2 : 2 ≤ c.threshold) (h8 : c.threshold ≤ 8) : PatternMove p (applyConfig c p)
  | started (m : RunMode) (l : RunLength) : PatternMove p (startRun m l p)
  | stopped : PatternMove p { p with run := .done, stopped := true }

/-- What the Cycle Tracker undergoes, with the settings and the maps of the instant (R13 to R27). -/
inductive TrackerMove (s : State) : CycleTracker → Prop
  | unlocked {ch : TrunkChar} (hl : s.ct.lock ≠ .locked)
      (hg : gainsLock s.ct s.me.node.confirmCount ch = none) :
      TrackerMove s (unlockedNext s.mu.live.length ch s.ct)
  | gained (n : Byte) (hp : s.ct.position = .header1) : TrackerMove s (lockedOn n s.ct)
  | fallbackCleared : TrackerMove s { s.ct with fallbackCount := 0 }
  | fallbackCounted (hl : s.ct.lock ≠ .locked) (h0 : s.me.node.fallbackThreshold ≠ 0)
      (hr : fallbackReached s = false) : TrackerMove s { s.ct with fallbackCount := s.ct.fallbackCount + 1 }
  | lost : TrackerMove s (lockLostTracker s.ct)
  | synced (hl : s.ct.lock = .locked) :
      TrackerMove s { s.ct with missCount := 0, coasting := false, position := .header1 }
  | missed (hl : s.ct.lock = .locked) (hm : missLosesLock s = false) :
      TrackerMove s { s.ct with missCount := s.ct.missCount + 1, coasting := true, position := .header1 }
  | numbered (hl : s.ct.lock = .locked) (n : Byte) : TrackerMove s { s.ct with cycle := some n }
  | headed : TrackerMove s { s.ct with slotsToGo := s.mu.live.length, position := .slot 0 }
  | slotTaken {i : SlotIx} (hp : s.ct.position = .slot i) : TrackerMove s (slotTaken i s.ct)

/-! ### The changes of the state -/

/-- Two states agree on every block but the counters and the model's counter of free choices. -/
structure SameBlocks (s t : State) : Prop where
  ct : t.ct = s.ct
  mu : t.mu = s.mu
  bu : t.bu = s.bu
  sp : t.sp = s.sp
  me : t.me = s.me
  eq : t.eq = s.eq
  pu : t.pu = s.pu
  trunk : t.trunk = s.trunk
  inReset : t.inReset = s.inReset
  pending : t.pending = s.pending

/-- Two states agree on every block that a law speaks of. -/
structure SameUnits (s t : State) : Prop where
  ct : t.ct = s.ct
  mu : t.mu = s.mu
  bu : t.bu = s.bu
  sp : t.sp = s.sp
  me : t.me = s.me
  eq : t.eq = s.eq
  pu : t.pu = s.pu

/-- One change of the state outside CT. -/
inductive WorkMove (s : State) : State → Prop
  | beside {t : State} (h : SameBlocks s t) : WorkMove s t
  | events {q : EventQueue} (h : EventMove s.eq q) : WorkMove s (s.withEq q)
  | maps {m : MapUnit} (h : MapMove s.mu m) : WorkMove s (s.withMu m)
  | branches {v : Vector Branch 4} (h : ∀ b : BranchNo, v[b] = s.bu[b] ∨ BranchMove s.bu[b] v[b]) :
      WorkMove s (s.withBu v)
  | frame {c : FrameContext} (h : FrameMove s.me.address s.sp c) : WorkMove s (s.withSp c)
  | executive {m : Management} (h : ExecutiveMove s.sp s.me m) : WorkMove s (s.withMe m)
  | pattern {p : PatternUnit} (h : PatternMove s.pu p) : WorkMove s (s.withPu p)

/-- One change of the state that a character or a frame makes. -/
inductive Change (s : State) : State → Prop
  | work {t : State} (h : WorkMove s t) : Change s t
  | tracker {c : CycleTracker} (h : TrackerMove s c) : Change s (s.withCt c)

/-- One change of the state: the line, the queue and the resets are changed too. -/
inductive Move (s : State) : State → Prop
  | work {t : State} (h : WorkMove s t) : Move s t
  | tracker {c : CycleTracker} (h : TrackerMove s c) : Move s (s.withCt c)
  | line {t : State} (h : SameUnits s t) : Move s t
  | resetEnds : Move s (endReset s)

/-- A run of changes outside CT. -/
abbrev Work : State → State → Prop := ReflTransGen WorkMove

/-- A run of changes that a character or a frame makes. -/
abbrev Changes : State → State → Prop := ReflTransGen Change

/-- A run of changes. -/
abbrev Moves : State → State → Prop := ReflTransGen Move

theorem Work.changes {s t : State} (h : Work s t) : Changes s t := by
  induction h with
  | refl => exact .refl
  | tail _ hmove ih => exact ih.tail (.work hmove)

theorem Changes.moves {s t : State} (h : Changes s t) : Moves s t := by
  induction h with
  | refl => exact .refl
  | tail _ hmove ih =>
    cases hmove with
    | work hw => exact ih.tail (.work hw)
    | tracker ht => exact ih.tail (.tracker ht)

theorem Work.moves {s t : State} (h : Work s t) : Moves s t := Changes.moves (Work.changes h)

/-- Neither a character nor a frame touches the line and the queue of commands. -/
theorem Changes.line_eq {s t : State} (h : Changes s t) :
    t.trunk = s.trunk ∧ t.inReset = s.inReset ∧ t.pending = s.pending := by
  induction h with
  | refl => exact ⟨rfl, rfl, rfl⟩
  | tail _ hchange ih =>
    obtain ⟨ht, hr, hp⟩ := ih
    rw [← ht, ← hr, ← hp]
    cases hchange with
    | work hw =>
      cases hw with
      | beside h => exact ⟨h.trunk, h.inReset, h.pending⟩
      | _ => exact ⟨rfl, rfl, rfl⟩
    | tracker => exact ⟨rfl, rfl, rfl⟩

/-- CT's part stands through work outside it. -/
theorem Work.ct_eq {s t : State} (h : Work s t) : t.ct = s.ct := by
  induction h with
  | refl => rfl
  | tail _ hmove ih =>
    rw [← ih]
    cases hmove with
    | beside h => exact h.ct
    | _ => rfl

theorem Work.of_beside {s t : State} (h : SameBlocks s t) : Work s t := .single (.beside h)

theorem Changes.tracker {s : State} {c : CycleTracker} (h : TrackerMove s c) : Changes s (s.withCt c) :=
  .single (.tracker h)

/-- A predicate that every change keeps is kept by a run of them. -/
theorem Moves.keeps {P : State → Prop} (hP : ∀ s t, P s → Move s t → P t) {s t : State} (h : Moves s t) (hs : P s) :
    P t := by
  induction h with
  | refl => exact hs
  | tail _ hmove ih => exact hP _ _ ih hmove

/-! ### Counts and posts -/

theorem SameBlocks.trans {s t u : State} (h : SameBlocks s t) (h' : SameBlocks t u) : SameBlocks s u :=
  ⟨h'.ct.trans h.ct, h'.mu.trans h.mu, h'.bu.trans h.bu, h'.sp.trans h.sp, h'.me.trans h.me, h'.eq.trans h.eq,
    h'.pu.trans h.pu, h'.trunk.trans h.trunk, h'.inReset.trans h.inReset, h'.pending.trans h.pending⟩

theorem countAll_beside (is : List CounterIx) (s : State) : SameBlocks s (countAll is s) := by
  obtain ⟨hme, hsp, hct, hres, hmu, hbu, heq, hpu, htr, _, hpe⟩ := countAll_frame is s
  exact ⟨hct, hmu, hbu, hsp, hme, heq, hpu, htr, hres, hpe⟩

theorem countRacing_beside (is : List CounterIx) {act : State → State} (hact : ∀ u, SameBlocks u (act u))
    (s : State) : SameBlocks s (countRacing is act s) := by
  have hfree : SameBlocks s (s.withFreeCount (s.freeCount + is.length)) := ⟨rfl, rfl, rfl, rfl, rfl, rfl, rfl, rfl, rfl,
      rfl⟩
  exact (hfree.trans (countAll_beside _ _)).trans ((hact _).trans (countAll_beside _ _))

theorem snapshot_beside (s : State) : SameBlocks s (snapshot s) := ⟨rfl, rfl, rfl, rfl, rfl, rfl, rfl, rfl, rfl, rfl⟩
theorem disarmCapture_beside (s : State) : SameBlocks s (disarmCapture s) := ⟨rfl, rfl, rfl, rfl, rfl, rfl, rfl, rfl,
    rfl, rfl⟩
theorem counterRestart_beside (s : State) : SameBlocks s (counterRestart s) := ⟨rfl, rfl, rfl, rfl, rfl, rfl, rfl, rfl,
    rfl, rfl⟩
theorem withFreeCount_beside (s : State) (k : Nat) : SameBlocks s (s.withFreeCount k) :=
  ⟨rfl, rfl, rfl, rfl, rfl, rfl, rfl, rfl, rfl, rfl⟩

/-- CB's work on a header notice changes the counters alone (R167). -/
theorem captureNotice_beside (n : Byte) (jump : Bool) (is : List CounterIx) (s : State) :
    SameBlocks s (captureNotice n jump is s).1 := by
  unfold captureNotice
  split
  · exact (countRacing_beside is snapshot_beside s).trans (disarmCapture_beside _)
  · dsimp only
    split
    · exact (countAll_beside is s).trans (disarmCapture_beside _)
    · exact countAll_beside is s

theorem captureLockLost_beside (s : State) : SameBlocks s (captureLockLost s).1 := by
  unfold captureLockLost
  split
  · exact disarmCapture_beside s
  · exact ⟨rfl, rfl, rfl, rfl, rfl, rfl, rfl, rfl, rfl, rfl⟩

theorem post_work (p : Post) (s : State) : Work s (post p s) := .single (.events (.post _ p))

theorem postList_work (ps : List Post) (s : State) : Work s (postList ps s) := by
  induction ps generalizing s with
  | nil => exact .refl
  | cons p ps ih => exact (post_work p s).trans (ih (post p s))

theorem postTogether_work (gs : List (List Post)) (s : State) : Work s (postTogether gs s) := by
  unfold postTogether
  split
  · exact postList_work _ s
  · exact (Work.of_beside (withFreeCount_beside s _)).trans (postList_work _ _)

theorem countAll_work (is : List CounterIx) (s : State) : Work s (countAll is s) := .of_beside (countAll_beside is s)

/-! ### The branches -/

theorem onBranch_work (b : BranchNo) (f : Branch → Branch) (s : State) (h : BranchMove s.bu[b] (f s.bu[b])) :
    Work s (onBranch b f s) := by
  refine .single (.branches (v := s.bu.set b (f s.bu[b])) fun b' => ?_)
  by_cases hb : b' = b
  · subst hb
    exact .inr (by simpa using h)
  · refine .inl ?_
    have : b.val ≠ b'.val := fun h => hb (Fin.ext h.symm)
    simp [this]

theorem pushDrop_work {b : BranchNo} {s : State} (he : s.bu[b].enabled = true) (v : Byte) :
    Work s (pushDrop b v s) := by
  unfold pushDrop
  split
  · unfold discardDrop
    dsimp only
    split
    · exact countAll_work [_] s
    · exact ((countAll_work [_] s).trans (post_work _ _)).trans (onBranch_work b _ _ (.dropReported he))
  · exact onBranch_work b _ s (.stored he (Bool.eq_false_iff.mpr ‹_›) v)

theorem popInsert_work {b : BranchNo} {s : State} (he : s.bu[b].enabled = true) : Work s (popInsert b s).2 := by
  unfold popInsert
  split
  · exact .refl
  · split
    · dsimp only
      refine onBranch_work b _ s ?_
      exact .inserted he ‹_›
    · dsimp only
      refine (countAll_work [cntStarved b] s).trans (onBranch_work b _ (count (cntStarved b) s) ?_)
      exact .starved he ‹_›

theorem dropHalf_work (b : BranchNo) (ch : TrunkChar) (s : State) : Work s (dropHalf b ch s) := by
  unfold dropHalf
  split
  · split
    · exact pushDrop_work ‹_› _
    · exact .refl
  · exact .refl

theorem insertHalf_work (b : BranchNo) (s : State) : Work s (insertHalf b s).2 := by
  unfold insertHalf
  split
  · exact popInsert_work ‹_›
  · exact .refl

theorem receiveJudged_work {b : BranchNo} {s : State} (he : s.bu[b].enabled = true) (v : Option Byte) :
    Work s (receiveJudged b v s) := by
  unfold receiveJudged
  dsimp only
  generalize hu : postList _ _ = u
  have hwork : Work s u := hu ▸ (countAll_work _ s).trans (postList_work _ _)
  have hbu : u.bu = s.bu := by rw [← hu]; exact (postList_frame _ _).2.2.2.2.2.1.trans (countAll_beside _ s).bu
  refine hwork.trans (onBranch_work b _ u ?_)
  rw [hbu]
  exact .received he v

theorem setLine_work {b : BranchNo} {s : State} (he : s.bu[b].enabled = true) (l : ReceiverLine) :
    Work s (setLine b l s) := by
  refine onBranch_work b _ s ?_
  exact .line he l

theorem branchComplete_work {b : BranchNo} {s : State} (he : s.bu[b].enabled = true) (ch : BranchBits) :
    Work s (branchComplete b ch s) :=
  (setLine_work he _).trans (receiveJudged_work (by simpa [setLine, onBranch] using he) _)

/-! ### RESTART -/

theorem stopBranches_work (s : State) : Work s (s.withBu (s.bu.map stopBranch)) :=
  .single (.branches fun b => .inr (by simpa using BranchMove.stopped))

theorem carryOutRestart_work (is : List CounterIx) (s : State) : Work s (carryOutRestart is s) := by
  have hfree := Work.of_beside (withFreeCount_beside s (s.freeCount + (racingPosts s).length))
  have hme := hfree.tail (.executive .restarted)
  have hmu := hme.tail (.maps .restarted)
  have hbu := hmu.trans (stopBranches_work _)
  have hpu := hbu.tail (.pattern .cleared)
  have hcb := hpu.tail (.beside (countRacing_beside (is ++ racingCounts s) counterRestart_beside _))
  exact hcb.tail (.events (.restarted _ _ _))

theorem frameNotice_work (notice : Bool) (is : List CounterIx) (s : State) : Work s (frameNotice notice is s) := by
  unfold frameNotice
  split
  · exact (carryOutRestart_work is s).trans (postTogether_work _ _)
  · exact countAll_work is s

end Sys2Proof.Machine
end

section
/-! The owners of the requests and the gate, as work on the state (R121 to R125). -/

namespace Sys2Proof.Machine
open Relation

/-! ### The owners and the gate -/

theorem entryOfByte_ne_guard {v : Byte} {e : Entry} (h : entryOfByte v = some e) : e ≠ .guard := by
  rintro rfl
  unfold entryOfByte at h
  dsimp only at h
  split at h
  all_goals simp at h

theorem mem_of_mapM_entryOfByte {bs : List Byte} {es : List Entry} (h : bs.mapM entryOfByte = some es) {e : Entry}
    (he : e ∈ es) : ∃ v ∈ bs, entryOfByte v = some e := by
  induction bs generalizing es with
  | nil =>
    cases h
    cases he
  | cons v bs ih =>
    rw [List.mapM_cons] at h
    obtain ⟨x, hx, h⟩ := Option.bind_eq_some_iff.mp h
    obtain ⟨xs, hxs, h⟩ := Option.bind_eq_some_iff.mp h
    cases h
    rcases List.mem_cons.mp he with rfl | he
    · exact ⟨v, by simp, hx⟩
    · obtain ⟨w, hw, hwe⟩ := ih hxs he
      exact ⟨w, List.mem_cons_of_mem _ hw, hwe⟩

theorem writtenEntries_ne_guard (r : Request) : ∀ e ∈ (writtenEntries r).getD [], e ≠ .guard := by
  cases hw : writtenEntries r with
  | none => simp
  | some es =>
    intro e he
    obtain ⟨_, _, hv⟩ := mem_of_mapM_entryOfByte hw he
    exact entryOfByte_ne_guard hv

/-- The settings that bytes give are valid (R133). -/
theorem valid_of_nodeSettingsOfBytes {bs : List Byte} {n : NodeSettings} (h : nodeSettingsOfBytes bs = some n) :
    n.valid = true := by
  unfold nodeSettingsOfBytes at h
  split at h
  · split at h
    · dsimp only at h
      split_ifs at h with hv
      cases h
      exact hv
    · cases h
  · cases h

/-- The threshold that bytes give is within 2..8 (R158). -/
theorem threshold_of_patternConfigOfBytes {bs : List Byte} {c : PatternConfig} (h : patternConfigOfBytes bs = some c) :
    2 ≤ c.threshold ∧ c.threshold ≤ 8 := by
  unfold patternConfigOfBytes at h
  split at h
  · split at h
    · split_ifs at h with hth
      cases h
      exact hth
    · cases h
  · cases h

theorem mapWriteOwner_work (r : Request) (s : State) : Work s (mapWriteOwner r s).2 := by
  unfold mapWriteOwner
  split
  · exact .refl
  · rename_i hl
    exact .single (.maps (.written _ (by simpa [pendingLocked] using hl) (writtenEntries_ne_guard r)))

theorem armOwner_work (r : Request) (s : State) : Work s (armOwner r s).2 := by
  unfold armOwner
  split_ifs with hb hl hg hc hlen hcheck hs <;> try exact .refl
  exact .single (.maps (.armed (by simpa using hb) rfl (by simpa [armedRecord] using hs)))

/-- What each request does at its owner is work (R121). -/
theorem owner_work {q : ReqName} {r : Request} {s : State} (hp : paramsOk q r = true)
    (ho : q = .openSession → s.sp.role = .taker ∧ s.sp.code = some 0x03) : Work s (owner q r s).2 := by
  cases q with
  | assign =>
    simp only [paramsOk, decide_eq_true_eq] at hp
    exact .single (.executive (.assigned hp.2.1 hp.2.2))
  | openSession =>
    obtain ⟨hr, hc⟩ := ho rfl
    have hopen : Work s (onMe (openedSession r.controller) s) := .single (.executive (.opened hr hc r.controller))
    simp only [owner, openOwner]
    split
    · split
      · exact hopen
      · exact .refl
    · exact hopen
  | closeSession => exact .single (.executive .closed)
  | nodeSet =>
    simp only [owner, nodeSetOwner]
    split
    · exact .single (.executive (.settings (valid_of_nodeSettingsOfBytes ‹_›)))
    · exact .refl
  | restart => exact .single (.executive .deferred)
  | mapWrite => exact mapWriteOwner_work r s
  | mapLength =>
    simp only [paramsOk, decide_eq_true_eq] at hp
    simp only [owner, mapLengthOwner]
    split
    · exact .refl
    · rename_i hl
      exact .single (.maps (.lengthSet (by simpa [pendingLocked] using hl) hp.2.1 hp.2.2))
  | mapCopy =>
    simp only [owner, mapCopyOwner]
    split
    · exact .refl
    · rename_i hl
      exact .single (.maps (.copied (by simpa [pendingLocked] using hl)))
  | arm => exact armOwner_work r s
  | disarm =>
    simp only [owner, disarmOwner]
    split
    · exact .single (.maps (.cancelled ‹_›))
    · exact .refl
  | branchSet =>
    simp only [owner, branchSetOwner]
    split
    · exact .refl
    · split
      · rename_i he _ c hc
        dsimp only
        refine onBranch_work _ _ s ?_
        exact .configured (Bool.eq_false_iff.mpr he) (bytes_of_branchConfigOfBytes hc).1
      · exact .refl
  | branchControl =>
    simp only [owner, branchControlOwner]
    split
    · exact onBranch_work _ _ s (.controlled _)
    · exact .refl
  | ack =>
    simp only [owner, ackOwner]
    split
    · exact .single (.events (.acked ‹_›))
    · exact .refl
  | testSet =>
    simp only [owner, testSetOwner]
    split
    · exact .refl
    · split
      · rename_i c hc
        obtain ⟨h2, h8⟩ := threshold_of_patternConfigOfBytes hc
        exact .single (.pattern (.configured h2 h8))
      · exact .refl
  | testStart =>
    simp only [owner, testStartOwner]
    split_ifs
    · exact .refl
    · exact .refl
    · split
      · exact .single (.pattern (.started _ _))
      · exact .refl
  | testStop =>
    simp only [owner, testStopOwner]
    split
    · exact .single (.pattern .stopped)
    · exact .refl
  | capture =>
    simp only [owner, captureOwner, captureAtOwner]
    split_ifs
    · exact .of_beside (snapshot_beside s)
    all_goals exact .of_beside ⟨rfl, rfl, rfl, rfl, rfl, rfl, rfl, rfl, rfl, rfl⟩
  | identify | keep | nodeGet | mapRead | mapCheck | switchStatus | branchGet | poll | testStatus | readCounters =>
    exact .refl

theorem serve_work {q : ReqName} {r : Request} {s : State}
    (ho : q = .openSession → s.sp.role = .taker ∧ s.sp.code = some 0x03) : Work s (serve q r s).2 := by
  unfold serve
  split_ifs with hroom hp
  · exact .refl
  · exact .refl
  · exact owner_work (by simpa using hp) ho

/-- Of the requests that an open session gates, only CLOSE ends it (R127, R128). -/
theorem serve_session {q : ReqName} {r : Request} {s : State} (hs : q.sessioned r.destination = true) :
    (serve q r s).2.me.session = s.me.session ∨ (q = .closeSession ∧ (serve q r s).1.status = .ok) := by
  unfold serve
  split_ifs with hroom hp
  · exact .inl rfl
  · exact .inl rfl
  · cases q with
    | closeSession => exact .inr ⟨rfl, rfl⟩
    | openSession => simp [ReqName.sessioned] at hs
    | _ =>
      left
      simp only [owner, identifyOwner, assignOwner, keepOwner, nodeGetOwner, nodeSetOwner,
        restartOwner, mapReadOwner, mapWriteOwner, mapLengthOwner, mapCopyOwner, mapCheckOwner, armOwner, disarmOwner,
        switchStatusOwner, branchGetOwner, branchSetOwner, branchControlOwner, pollOwner, ackOwner, testSetOwner,
        testStartOwner, testStopOwner, testStatusOwner, captureOwner, captureNowOwner, captureAtOwner,
        readCountersOwner]
      repeat' split
      all_goals rfl

theorem gateSessioned_work {q : ReqName} {r : Request} {s : State} (hs : q.sessioned r.destination = true)
    (ho : q = .openSession → s.sp.role = .taker ∧ s.sp.code = some 0x03) : Work s (gateSessioned q r s).2 := by
  unfold gateSessioned
  split_ifs with h0 ht
  · exact .refl
  · exact .refl
  · split
    · exact .refl
    · refine (serve_work (r := r) ho).trans ?_
      dsimp only
      unfold cacheReply onMe
      split_ifs with hc
      · exact .refl
      · refine .single (.executive (.cached ?_ _ _))
        rcases serve_session (s := s) hs with hsame | hclose
        · rw [hsame]
          by_contra hnone
          simp [tagIsOpen, Option.not_isSome_iff_eq_none.mp hnone] at ht
        · exact absurd hclose hc

theorem gate_work {r : Request} {s : State}
    (ho : requestOfCode r.code = some .openSession → s.sp.role = .taker ∧ s.sp.code = some 0x03) :
    Work s (gate r s).2 := by
  have htouch : Work s (onMe (touchSession r) s) := .single (.executive (.touched r))
  unfold gate
  dsimp only
  split
  · exact htouch
  · rename_i q hq
    have hq' : q = .openSession → (onMe (touchSession r) s).sp.role = .taker
        ∧ (onMe (touchSession r) s).sp.code = some 0x03 := fun h => ho (h ▸ hq)
    split
    · exact htouch.trans (gateSessioned_work ‹_› hq')
    · exact htouch.trans (serve_work hq')

end Sys2Proof.Machine
end

section
/-! The Service Port, the slots, the Cycle Tracker's character and the step itself, as runs of changes. -/

namespace Sys2Proof.Machine
open Relation

/-! ### The Service Port -/

theorem onSp_work {f : FrameContext → FrameContext} {s : State} (h : FrameMove s.me.address s.sp (f s.sp)) :
    Work s (onSp f s) := .single (.frame h)

theorem handToMe_work {r : Request} {s : State}
    (ho : requestOfCode r.code = some .openSession → s.sp.role = .taker ∧ s.sp.code = some 0x03) :
    Work s (handToMe r s) :=
  (gate_work ho).tail (.frame (.held true _))

theorem takeRequest_work {r : Request} {s : State}
    (ho : requestOfCode r.code = some .openSession → s.sp.role = .taker ∧ s.sp.code = some 0x03) :
    Work s (takeRequest r s) := by
  have hcount : ∀ u, Work u (count cntFramesTaken u) := countAll_work [cntFramesTaken]
  unfold takeRequest
  dsimp only
  split_ifs
  · exact ((Work.of_beside (withFreeCount_beside s _)).trans (hcount _)).trans (handToMe_work ho)
  · exact ((Work.of_beside (withFreeCount_beside s (s.freeCount + 1))).trans (handToMe_work ho)).trans (hcount _)
  · exact (hcount s).trans (handToMe_work ho)

theorem requestOfCode_eq_open {code : Byte} (h : requestOfCode code = some .openSession) : code = 0x03 := by
  have := List.find?_some h
  simpa [ReqName.code, eq_comm] using this

/-- What a frame does at its last request check character is work, for the request its context holds (R110 to R113). -/
theorem atCheck_work {good : Bool} {role : Role} {r : Request} {s : State} (hrole : role = s.sp.role)
    (hcode : r.code = s.sp.code.getD 0) : Work s (atCheck good role r s) := by
  have hcode3 : requestOfCode r.code = some .openSession → s.sp.code = some 0x03 := by
    intro h
    have h3 := requestOfCode_eq_open h
    rw [hcode] at h3
    cases hc : s.sp.code with
    | none => simp [hc] at h3
    | some c => simpa [hc] using h3
  unfold atCheck
  split
  · split
    · exact takeRequest_work fun h => ⟨hrole.symm, hcode3 h⟩
    · exact (countAll_work [cntCheckFailures] s).trans (onSp_work (.held _ _))
  · split
    · rename_i hcap
      have hno : requestOfCode r.code ≠ some .openSession := by rw [hcap.2]; decide
      exact (gate_work fun h => absurd h hno).trans (onSp_work (.held _ _))
    · exact .refl
  · exact (post_work _ s).trans (onSp_work (.held _ _))
  · exact .refl
  · exact .refl

theorem abortFrame_work (is : List CounterIx) (s : State) : Work s (abortFrame is s) :=
  (onSp_work .ended).trans (frameNotice_work _ _ _)

/-- A header character that is taken, and one that makes the frame malformed (R107). -/
theorem takeHeader_eq (v : Byte) (s : State) :
    (takeHeader v s).2
      = if 6 ≤ s.sp.place ∧ 32 < v.toNat then abortFrame [] s else onSp (headerContext s.me.address v) s := by
  unfold takeHeader headerContext onSp
  rcases hp : s.sp.place with _ | _ | _ | _ | _ | _ | _ | n <;> by_cases hv : 32 < v.toNat <;> simp [hp, hv]

theorem takePlain_work (v : Byte) {s : State} : Work s (takePlain v s).2 := by
  unfold takePlain
  split
  · exact .refl
  · rename_i hp
    rw [takeHeader_eq]
    split_ifs with h
    · exact abortFrame_work [] s
    · exact onSp_work (.header hp (by omega))
  · exact onSp_work (.param ‹_› v)
  · rename_i hp
    simp only [takeCheck]
    split
    · exact onSp_work (f := fun c => { c with checkHigh := some v, place := 1 }) (.checkHigh hp v)
    · exact (onSp_work (f := checkTaken v) (.checked hp v)).trans (atCheck_work rfl rfl)
  · exact onSp_work (.turned ‹_›)
  · exact onSp_work (.replied ‹_›)
  · exact abortFrame_work [] s

/-- One element of the service channel is work (R106 to R118). -/
theorem serviceElement_work (ch : TrunkChar) (is : List CounterIx) (s : State) :
    Work s (serviceElement ch is s).2 := by
  unfold serviceElement
  split
  · cases ch with
    | fs => exact (onSp_work .begun).trans (countAll_work _ _)
    | _ => exact countAll_work is s
  · cases ch with
    | plain v => exact (countAll_work is s).trans (takePlain_work v)
    | fs => exact (onSp_work .begun).trans (frameNotice_work _ _ _)
    | fe =>
      simp only [frameElement]
      split
      · exact (countAll_work is s).trans ((onSp_work .ended).trans (frameNotice_work _ _ _))
      · exact abortFrame_work is s
    | _ => exact abortFrame_work is s

/-- A request row's command is work (R106 to R113). -/
theorem requestStep_work (code : Byte) (f : ReqFrame) (s : State) : Work s (requestStep code f s) := by
  unfold requestStep
  split
  · exact .refl
  · have hfs := serviceElement_work .fs [] s
    dsimp only
    split
    · rename_i h
      exact hfs.trans ((onSp_work (f := fun c => endContext (malformedContext code f c)) (.abandoned code f)).trans
        (frameNotice_work _ _ _))
    · rename_i h
      exact hfs.trans (.trans (.single (.frame (.framed (by omega) (by omega)))) (atCheck_work rfl rfl))

/-! ### The slots -/

theorem testSlot_work (ch : TrunkChar) (s : State) : Work s (testSlot ch s).2 :=
  (ReflTransGen.single (.pattern (.element (usable ch)))).trans (postList_work _ _)

theorem payloadSlot_work (e : Entry) (ch : TrunkChar) (s : State) : Work s (payloadSlot e ch s).2 := by
  cases e with
  | pass | guard | service => exact .refl
  | drop b => exact dropHalf_work b ch s
  | tap b => exact dropHalf_work b ch s
  | insert b => exact insertHalf_work b s
  | exchange b => exact (dropHalf_work b ch s).trans (insertHalf_work b _)
  | test => exact testSlot_work ch s

theorem slotStep_work (i : SlotIx) (ch : TrunkChar) (is : List CounterIx) (s : State) :
    Work s (slotStep i ch is s).2 := by
  unfold slotStep
  split
  · exact serviceElement_work ch is s
  · exact (countAll_work _ s).trans (payloadSlot_work _ ch _)

/-! ### The Cycle Tracker's character -/

theorem headerTaken_changes (n : Byte) (jump : Bool) (posts : List Post) (is : List CounterIx) (s : State) :
    Changes s (headerTaken n jump posts is s) := by
  have hmu : Work s (s.withMu (switchNotice n jump s.mu).1) := .single (.maps (.noticed n jump))
  have hme := hmu.tail (.executive .noticed)
  have hcb := hme.tail (.beside (captureNotice_beside n jump is _))
  exact (Work.changes (hcb.trans (postTogether_work _ _))).tail (.tracker .headed)

theorem gainsLock_position {c : CycleTracker} {k : Byte} {ch : TrunkChar} {n : Byte}
    (h : gainsLock c k ch = some n) : c.position = .header1 := by
  unfold gainsLock at h
  split at h
  · assumption
  · cases h

theorem unlockedNext_lock {c : CycleTracker} (h : c.lock ≠ .locked) (l : Nat) (ch : TrunkChar) :
    (unlockedNext l ch c).lock ≠ .locked := by
  unfold unlockedNext
  split
  · split <;> simp_all [confirmNumber, toConfirm, toHunt]
  · simpa [slotTaken] using h
  · split <;> simp_all [toHunt]
  · split
    · split <;> simp_all [confirmNumber, toHunt]
    all_goals simp [toConfirm, toHunt]
  · split <;> simp [toConfirm, toHunt]

theorem fallbackTaken_changes (s : State) : Changes s (fallbackTaken s) := by
  unfold fallbackTaken
  dsimp only
  split
  · have hmu : Work s (s.withMu (loadBootstrap s.mu)) := .single (.maps .bootstrapped)
    exact (Work.changes ((hmu.tail (.executive .closed)).trans (post_work _ _))).tail (.tracker .fallbackCleared)
  · exact .single (.tracker .fallbackCleared)

theorem advanceFallback_changes {s : State} (hl : s.ct.lock ≠ .locked) : Changes s (advanceFallback s) := by
  unfold advanceFallback
  split_ifs with hr h0
  · exact fallbackTaken_changes s
  · exact .refl
  · exact .single (.tracker (.fallbackCounted hl h0 (Bool.eq_false_iff.mpr hr)))

theorem unlockedStep_changes {s : State} (hl : s.ct.lock ≠ .locked) (ch : TrunkChar) (is : List CounterIx) :
    Changes s (unlockedStep ch is s).2 := by
  unfold unlockedStep
  dsimp only
  split
  · exact (Changes.tracker (.gained _ (gainsLock_position ‹_›))).trans (headerTaken_changes _ _ _ _ _)
  · have hct := (Changes.tracker (.unlocked hl ‹_›)).trans (countAll_work is _).changes
    refine hct.trans (advanceFallback_changes ?_)
    rw [(countAll_beside is _).ct]
    exact unlockedNext_lock hl _ _

theorem lockLostNotices_work (posts others : List Post) (s : State) : Work s (lockLostNotices posts others s) := by
  have hmu : Work s (s.withMu (switchLockLost s.mu).1) := .single (.maps .lockLost)
  have hcb := hmu.tail (.beside (captureLockLost_beside _))
  exact (hcb.tail (.pattern .lockLost)).trans (postTogether_work _ _)

theorem lockLostTracker_changes (s : State) : Changes s (onCt lockLostTracker s) := .tracker .lost

theorem loseLockWithRestart_changes (is : List CounterIx) (s : State) : Changes s (loseLockWithRestart is s) := by
  have hbegin : Work s (onSp endContext (s.withFreeCount (s.freeCount + 3))) :=
    (Work.of_beside (withFreeCount_beside s _)).trans (onSp_work .ended)
  unfold loseLockWithRestart
  dsimp only
  split
  · have hrestart := hbegin.trans (carryOutRestart_work is _)
    refine .trans (.trans (Work.changes ?_) (lockLostTracker_changes _)) (lockLostNotices_work _ _ _).changes
    exact (hrestart.tail (.beside (withFreeCount_beside _ _))).trans (postTogether_work _ _)
  · have hct := hbegin.changes.trans (lockLostTracker_changes _)
    refine hct.trans (.trans ?_ (Work.changes ((carryOutRestart_work is _).trans (lockLostNotices_work _ _ _))))
    split
    · exact (lockLostNotices_work _ _ _).changes
    · exact (postList_work _ _).changes

theorem loseLock_changes (is : List CounterIx) (s : State) : Changes s (loseLock is s) := by
  unfold loseLock
  split
  · exact loseLockWithRestart_changes _ s
  · have hcount := countAll_work (lockLostCounts s is) s
    have hsp : ∀ u : State, Work u (if s.sp.parser = .idle then u else onSp endContext u) := by
      intro u
      split
      · exact .refl
      · exact onSp_work .ended
    exact ((Work.changes (hcount.trans (hsp _))).trans (lockLostTracker_changes _)).trans
        (lockLostNotices_work _ _ _).changes

theorem lockedSync_changes {s : State} (hl : s.ct.lock = .locked) (ch : TrunkChar) (is : List CounterIx) :
    Changes s (lockedSync ch is s).2 := by
  unfold lockedSync
  split_ifs with hsync hmiss
  · exact (Changes.tracker (.synced hl)).trans (countAll_work is _).changes
  · exact loseLock_changes is s
  · exact (Changes.tracker (.missed hl (Bool.eq_false_iff.mpr hmiss))).trans (countAll_work _ _).changes

theorem lockedNumber_changes {s : State} (hl : s.ct.lock = .locked) (ch : TrunkChar) (is : List CounterIx) :
    Changes s (lockedNumber ch is s).2 := by
  have hct : Changes s (onCt (fun c => { c with cycle := some (adopted s.ct ch).1 }) s) := .tracker (.numbered hl _)
  unfold lockedNumber
  dsimp only
  split
  · exact hct.trans (headerTaken_changes _ _ _ _ _)
  · exact hct.trans (headerTaken_changes _ _ _ _ _)

theorem lockedSlot_changes {i : SlotIx} {s : State} (hp : s.ct.position = .slot i) (ch : TrunkChar)
    (is : List CounterIx) : Changes s (lockedSlot i ch is s).2 := by
  have hslot := slotStep_work i ch is s
  refine hslot.changes.tail (.tracker (.slotTaken ?_))
  rw [hslot.ct_eq]
  exact hp

theorem trackerStep_changes (ch : TrunkChar) (s : State) : Changes s (trackerStep ch s).2 := by
  unfold trackerStep
  dsimp only
  split
  · rename_i hl
    unfold lockedStep
    split
    · exact lockedSync_changes hl ch _
    · exact lockedNumber_changes hl ch _
    · exact lockedSlot_changes ‹_› ch _
    · exact (countAll_work _ s).changes
    · exact (countAll_work _ s).changes
  · exact unlockedStep_changes (by simp [*]) ch _
  · exact unlockedStep_changes (by simp [*]) ch _

theorem trunkStep_moves (ch : TrunkBits) (s : State) : Moves s (trunkStep ch s) := by
  unfold trunkStep
  split
  · exact (trackerStep_changes _ s).moves.tail (.line ⟨rfl, rfl, rfl, rfl, rfl, rfl, rfl⟩)
  · exact .refl

theorem trunkRow_moves (due : Bool) (ch : TrunkBits) (s : State) : Moves s (trunkRow due ch s) := by
  unfold trunkRow
  split
  · exact trunkStep_moves ch s
  · exact .refl

theorem rowStep_moves (mine : Bool) (q : ReqName) (f : ReqFrame) (s : State) : Moves s (rowStep mine q f s) := by
  unfold rowStep
  split
  · exact (requestStep_work _ f s).moves
  · exact .refl

/-! ### The step -/

theorem beginReset_moves (c : RestartCause) (s : State) : Moves s (beginReset c s) := by
  have hline : Moves s ((s.withInReset true).withTrunk TrunkLine.reset) :=
    .single (.line ⟨rfl, rfl, rfl, rfl, rfl, rfl, rfl⟩)
  exact (hline.trans (stopBranches_work _).moves).tail (.work (.executive (.cause c)))

/-- What every command does is a run of changes. -/
theorem exec_moves {i : Instr} {s t : State} (h : exec i s = .next t) : Moves s t := by
  cases i with
  | hardReset source =>
    obtain rfl := Host.Outcome.next.inj h
    split_ifs
    · cases source with
      | power => exact .single (.work (.executive (.cause .power)))
      | pin => exact .refl
    · exact beginReset_moves _ s
  | hardResetEnd =>
    obtain rfl := Host.Outcome.next.inj h
    split_ifs
    · exact .single .resetEnds
    · exact .refl
  | trunkCharacterReceived ch => exact Host.Outcome.next.inj h ▸ trunkStep_moves ch s
  | trunkFalseStart => exact Host.Outcome.next.inj h ▸ .refl
  | trunkLineHigh =>
    obtain rfl := Host.Outcome.next.inj h
    split_ifs
    · exact .single (.line ⟨rfl, rfl, rfl, rfl, rfl, rfl, rfl⟩)
    · exact .refl
  | fallbackAction ch | lockGained ch | lockLost ch | sessionExpired ch | switchFire ch | guardEnd ch
  | deferredCapture ch | checkerResync ch | testDone ch | restartCarriedOut ch =>
    exact Host.Outcome.next.inj h ▸ trunkRow_moves _ ch s
  | branchCharacterComplete b ch =>
    obtain rfl := Host.Outcome.next.inj h
    split_ifs with hl
    · exact (branchComplete_work hl.2.1 ch).moves
    · exact .refl
  | branchFalseStart b | branchLineHigh b | branchStartFall b =>
    obtain rfl := Host.Outcome.next.inj h
    split_ifs with hl
    · exact (setLine_work hl.2.1 _).moves
    · exact .refl
  | branchCharacterSent b =>
    obtain rfl := Host.Outcome.next.inj h
    split_ifs with hl
    · exact (onBranch_work b popDrop s (.sent hl.2.1)).moves
    · exact .refl
  | unknownRequest code f =>
    obtain rfl := Host.Outcome.next.inj h
    split_ifs
    · exact (requestStep_work code f s).moves
    · exact .refl
  | identify f | assign f | openSession f | closeSession f | keep f | nodeGet f | nodeSet f | restart f | mapRead f
  | mapWrite f | mapLength f | mapCopy f | mapCheck f | arm f | disarm f | switchStatus f | branchGet f | branchSet f
  | enable f | disable f | clearHold f | flushDrop f | flushInsert f | poll f | ack f | testSet f | testStart f
  | testStop f | testStatus f | captureNow f | captureAtCycle f | readCounters f =>
    exact Host.Outcome.next.inj h ▸ rowStep_moves _ _ f s

/-- Every step is a run of changes. -/
theorem step_moves {s t : State} (h : step s = .next t) : Moves s t := by
  unfold step at h
  split at h
  · exact Host.Outcome.next.inj h ▸ .refl
  · rename_i c rest _
    have hfetch : Moves s (s.withPending rest) := .single (.line ⟨rfl, rfl, rfl, rfl, rfl, rfl, rfl⟩)
    exact hfetch.trans (exec_moves h)

/-- A law that every change keeps is kept by every step. -/
theorem step_keeps {P : State → Prop} (hP : ∀ s t, P s → Move s t → P t) {s t : State} (hs : P s)
    (h : step s = .next t) : P t := (step_moves h).keeps hP hs

end Sys2Proof.Machine
end

section
/-! The laws of the Event Queue and of the Branch Units, kept by every change of those blocks. -/

namespace Sys2Proof.Machine
open Relation

/-! ### The law of the Event Queue -/

/-- The sequences of a queue of `n` records that end at the number before `next` (R138). -/
def sequencesUpTo (next : Byte) (n : Nat) : List Byte := (List.range n).map fun k => next - BitVec.ofNat 8 (n - k)

theorem sequencesUpTo_succ (next : Byte) (n : Nat) :
    sequencesUpTo (next + 1) (n + 1) = sequencesUpTo next n ++ [next] := by
  unfold sequencesUpTo
  rw [List.range_succ, List.map_append]
  congr 1
  · refine List.map_congr_left fun k hk => ?_
    have hk : k < n := List.mem_range.mp hk
    rw [Nat.succ_sub hk.le, Nat.succ_eq_add_one, BitVec.ofNat_add]
    simp
  · simp

/-- The sequences of the newest records are those of a shorter queue. -/
theorem drop_sequencesUpTo (next : Byte) (n d : Nat) :
    (sequencesUpTo next n).drop d = sequencesUpTo next (n - d) := by
  apply List.ext_getElem
  · simp [sequencesUpTo]
  · intro k h1 h2
    simp only [sequencesUpTo, List.length_drop, List.length_map, List.length_range] at h1
    have : n - (d + k) = n - d - k := by omega
    simp [sequencesUpTo, this]

theorem advanceNewest_map_sequence (es : List EventRecord) :
    (advanceNewest es).map EventRecord.sequence = es.map EventRecord.sequence := by
  fun_induction advanceNewest es <;> simp_all

theorem advanceNewest_getLast_kind (es : List EventRecord) :
    (advanceNewest es).getLast?.map EventRecord.kind = es.getLast?.map EventRecord.kind := by
  fun_induction advanceNewest es with
  | case1 => rfl
  | case2 e he => simp
  | case3 e he => rfl
  | case4 e rest hrest ih =>
    have hne : rest ≠ [] := fun h => hrest h
    have hne' : advanceNewest rest ≠ [] := fun h => hne (by simpa [h] using (advanceNewest_map_sequence rest).symm)
    rw [List.getLast?_cons_of_ne_nil hne, List.getLast?_cons_of_ne_nil hne', ih]

theorem newerThan_eq_drop {k : Byte} {es rest : List EventRecord} (h : newerThan k es = some rest) :
    ∃ d, rest = es.drop d ∧ 1 ≤ d ∧ d ≤ es.length := by
  induction es with
  | nil => cases h
  | cons e es ih =>
    unfold newerThan at h
    split at h
    · cases h
      exact ⟨1, by simp⟩
    · obtain ⟨d, hd, _, hlen⟩ := ih h
      exact ⟨d + 1, by simpa using hd, by omega, by simpa using hlen⟩

theorem eventLaw_post {q : EventQueue} (h : eventLaw q) (cycle : Option Byte) (p : Post) :
    eventLaw (postTo q cycle p) := by
  obtain ⟨hlen, hseq, hover⟩ := h
  change q.events.map EventRecord.sequence = sequencesUpTo q.nextSequence q.events.length at hseq
  have happend : ∀ r : EventRecord, r.sequence = q.nextSequence →
      (q.events ++ [r]).map EventRecord.sequence = sequencesUpTo (q.nextSequence + 1) (q.events ++ [r]).length := by
    intro r hr
    rw [List.map_append, hseq, List.length_append, List.length_singleton, sequencesUpTo_succ]
    simp [hr]
  unfold postTo
  split_ifs with h14 h15
  · refine ⟨?_, happend _ rfl, ?_⟩
    · simp only [List.length_append, List.length_singleton]
      omega
    · simp only [List.length_append, List.length_singleton]
      omega
  · exact ⟨by simp [h15], happend _ rfl, fun _ => by simp⟩
  · have hmap := advanceNewest_map_sequence q.events
    have hl : (advanceNewest q.events).length = q.events.length := by simpa using congrArg List.length hmap
    refine ⟨hl ▸ hlen, ?_, fun h16 => ?_⟩
    · change (advanceNewest q.events).map EventRecord.sequence = sequencesUpTo _ (advanceNewest q.events).length
      rw [hmap, hl, hseq]
    · rw [advanceNewest_getLast_kind]
      exact hover (hl ▸ h16)

theorem eventLaw_restarted (cause : RestartCause) (abandoned : Bool) (cycle : Option Byte) :
    eventLaw (EventQueue.restarted cause abandoned cycle) :=
  ⟨by simp [EventQueue.restarted], by simp [EventQueue.restarted], fun h => by simp [EventQueue.restarted] at h⟩

theorem eventLaw_acked {q : EventQueue} (h : eventLaw q) {k : Byte} {rest : List EventRecord}
    (hr : newerThan k q.events = some rest) : eventLaw { q with events := rest } := by
  obtain ⟨hlen, hseq, _⟩ := h
  obtain ⟨d, rfl, hd, hdl⟩ := newerThan_eq_drop hr
  change q.events.map EventRecord.sequence = sequencesUpTo q.nextSequence q.events.length at hseq
  refine ⟨?_, ?_, fun h16 => ?_⟩
  · simp only [List.length_drop]
    omega
  · change (q.events.drop d).map EventRecord.sequence = sequencesUpTo q.nextSequence (q.events.drop d).length
    rw [List.map_drop, hseq, drop_sequencesUpTo, List.length_drop]
  · simp only [List.length_drop] at h16
    omega

/-- Every change of the Event Queue keeps its law (R138, R141, R144). -/
theorem EventMove.keeps_eventLaw {q q' : EventQueue} (h : eventLaw q) (hm : EventMove q q') : eventLaw q' := by
  cases hm with
  | post cycle p => exact eventLaw_post h cycle p
  | restarted cause abandoned cycle => exact eventLaw_restarted cause abandoned cycle
  | acked hr => exact eventLaw_acked h hr

theorem move_keeps_eventLaw {s t : State} (h : eventLaw s.eq) (hm : Move s t) : eventLaw t.eq := by
  cases hm with
  | work hw =>
    cases hw with
    | beside hs => rwa [hs.eq]
    | events hq => exact hq.keeps_eventLaw h
    | _ => exact h
  | line h => rwa [h.eq]
  | tracker => exact h
  | resetEnds => exact eventLaw_restarted _ _ _

/-- Settles O56: every change of the Event Queue keeps the law, and a step is a run of changes. -/
theorem eventLawIsKept : Obligations.EventLawIsKept := fun _ _ h hstep =>
  step_keeps (P := fun s => eventLaw s.eq) (fun _ _ => move_keeps_eventLaw) h hstep

/-! ### The law of the Branch Units -/

theorem branchLaw_disabledWith {c : BranchConfig} (hl : c.startLevel ≤ 31) (hd : c.divisor ≠ 0) :
    branchLaw (Branch.disabledWith c) :=
  ⟨Nat.zero_le _, Nat.zero_le _, hl, hd, fun _ => rfl, fun _ => rfl, fun h => by cases h⟩

/-- A disabled branch whose record is changed is a disabled branch with that record. -/
theorem branchLaw_configured {x : Branch} (h : branchLaw x) {c : BranchConfig} (he : x.enabled = false) (hc : c.Valid) :
    branchLaw { x with config := c } := by
  obtain ⟨_, _, _, _, hdis, _⟩ := h
  rw [hdis he]
  exact branchLaw_disabledWith hc.2 hc.1

theorem fillingSide_filling {c : BranchConfig} (h : fillingSide c = .filling) : 0 < c.startLevel := by
  unfold fillingSide at h
  split_ifs at h with h0
  omega

/-- What the law says of an enabled branch. -/
theorem branchLaw_enabled_iff {x : Branch} (he : x.enabled = true) :
    branchLaw x ↔ x.dropQueue.length ≤ 32 ∧ x.insertQueue.length ≤ 32 ∧ x.config.startLevel ≤ 31
      ∧ x.config.divisor ≠ 0 ∧ (x.sending = none → x.dropQueue = [])
      ∧ (x.side = .filling → x.insertQueue.length < x.config.startLevel) := by
  simp [branchLaw, he]

theorem branchLaw_of_enabled {x : Branch} (he : x.enabled = true)
    (h : x.dropQueue.length ≤ 32 ∧ x.insertQueue.length ≤ 32 ∧ x.config.startLevel ≤ 31
      ∧ x.config.divisor ≠ 0 ∧ (x.sending = none → x.dropQueue = [])
      ∧ (x.side = .filling → x.insertQueue.length < x.config.startLevel)) : branchLaw x :=
  (branchLaw_enabled_iff he).mpr h

theorem branchLaw_popDrop {x : Branch} (he : x.enabled = true) (h : branchLaw x) : branchLaw (popDrop x) := by
  rw [branchLaw_enabled_iff he] at h
  obtain ⟨hd, hi, hl, hdiv, hs, hf⟩ := h
  unfold popDrop
  split
  · exact branchLaw_of_enabled he ⟨hd, hi, hl, hdiv, fun _ => ‹_›, hf⟩
  · rename_i v rest hq
    rw [hq, List.length_cons] at hd
    exact branchLaw_of_enabled he ⟨by dsimp only; omega, hi, hl, hdiv, fun h => (nomatch h), hf⟩

theorem branchLaw_storeDrop {x : Branch} (he : x.enabled = true) (h : branchLaw x) (hq : queueFull x.dropQueue = false)
    (v : Byte) : branchLaw (storeDrop v x) := by
  rw [branchLaw_enabled_iff he] at h
  obtain ⟨hd, hi, hl, hdiv, hs, hf⟩ := h
  have hroom : x.dropQueue.length < 32 := by simpa [queueFull] using hq
  unfold storeDrop
  dsimp only
  split
  · rename_i hsend
    simp only [popDrop, hs hsend, List.nil_append]
    exact branchLaw_of_enabled he ⟨by simp, hi, hl, hdiv, fun h => (nomatch h), hf⟩
  · rename_i w hsend
    refine branchLaw_of_enabled he ⟨?_, hi, hl, hdiv, fun h => by simp [hsend] at h, hf⟩
    simp only [List.length_append, List.length_singleton]
    omega

theorem branchLaw_received {x : Branch} (he : x.enabled = true) (h : branchLaw x) (v : Option Byte) :
    branchLaw ((x.judge v).apply x) := by
  have h' := (branchLaw_enabled_iff he).mp h
  obtain ⟨hd, hi, hl, hdiv, hs, hf⟩ := h'
  cases hj : x.judge v with
  | pushed byte =>
    have hroom : x.insertQueue.length < 32 := by
      unfold Branch.judge at hj
      split at hj
      · split_ifs at hj with hq
        simpa [queueFull] using hq
      · cases hj
      · cases hj
      · split at hj <;> cases hj
    change branchLaw (storeInsert byte x)
    refine branchLaw_of_enabled he ⟨hd, ?_, hl, hdiv, hs, ?_⟩
    · simp only [storeInsert, List.length_append, List.length_singleton]
      omega
    · simp only [storeInsert, List.length_append, List.length_singleton]
      split
      · simp
      · rename_i hside
        intro hfill
        have := hf hfill
        have : ¬(x.insertQueue.length + 1 = x.config.startLevel) := fun h => hside ⟨hfill, h⟩
        omega
  | discarded => exact branchLaw_of_enabled he ⟨hd, hi, hl, hdiv, hs, hf⟩
  | counted => exact h
  | held => exact branchLaw_of_enabled he ⟨hd, hi, hl, hdiv, hs, hf⟩

theorem branchLaw_controlled {x : Branch} (h : branchLaw x) (a : BranchAction) : branchLaw (a.apply x) := by
  have hstop : branchLaw (stopBranch x) := branchLaw_disabledWith h.2.2.1 h.2.2.2.1
  have h' := h
  obtain ⟨hd, hi, hl, hdiv, hdis, hs, hf⟩ := h'
  cases he : x.enabled with
  | false =>
    have hx := hdis he
    cases a with
    | enable =>
      simp only [BranchAction.apply, enableBranch, he, Bool.false_eq_true, if_false]
      exact branchLaw_of_enabled rfl ⟨by simp, by simp, hl, hdiv, fun _ => rfl,
          fun h => by simpa using fillingSide_filling h⟩
    | disable => simpa [BranchAction.apply, disableBranch, he] using h
    | clearHold => simpa [BranchAction.apply, clearHoldBranch, he] using h
    | flushDrop =>
      rw [hx]
      exact branchLaw_disabledWith hl hdiv
    | flushInsert =>
      rw [hx]
      exact branchLaw_disabledWith hl hdiv
  | true =>
    cases a with
    | enable => simpa [BranchAction.apply, enableBranch, he] using branchLaw_of_enabled he ⟨hd, hi, hl, hdiv, hs, hf he⟩
    | disable => simpa [BranchAction.apply, disableBranch, he] using hstop
    | clearHold =>
      simp only [BranchAction.apply, clearHoldBranch, he, if_true]
      exact branchLaw_of_enabled rfl ⟨hd, hi, hl, hdiv, hs, hf he⟩
    | flushDrop => exact branchLaw_of_enabled he ⟨by simp [BranchAction.apply, flushDropBranch], hi, hl, hdiv,
        fun _ => rfl, hf he⟩
    | flushInsert =>
      refine branchLaw_of_enabled he ⟨hd, by simp [BranchAction.apply, flushInsertBranch], hl, hdiv, hs, fun h => ?_⟩
      simp only [BranchAction.apply, flushInsertBranch, he, if_true] at h
      exact fillingSide_filling h

/-- Every change of a Branch Unit keeps its law (R58, R83, R86, R88). -/
theorem BranchMove.keeps_branchLaw {x y : Branch} (h : branchLaw x) (hm : BranchMove x y) : branchLaw y := by
  cases hm with
  | sent he => exact branchLaw_popDrop he h
  | stored he hq v => exact branchLaw_storeDrop he h hq v
  | received he v => exact branchLaw_received he h v
  | controlled a => exact branchLaw_controlled h a
  | configured he hc => exact branchLaw_configured h he hc
  | stopped => exact branchLaw_disabledWith h.2.2.1 h.2.2.2.1
  | line he l | dropReported he =>
    rw [branchLaw_enabled_iff he] at h
    exact branchLaw_of_enabled he h
  | inserted he hq =>
    rw [branchLaw_enabled_iff he] at h
    obtain ⟨hd, hi, hl, hdiv, hs, hf⟩ := h
    rw [hq, List.length_cons] at hi hf
    refine branchLaw_of_enabled he ⟨hd, ?_, hl, hdiv, hs, fun h => ?_⟩
    · dsimp only
      omega
    · have := hf h
      dsimp only
      omega
  | starved he hq =>
    rw [branchLaw_enabled_iff he] at h
    obtain ⟨hd, hi, hl, hdiv, hs, _⟩ := h
    refine branchLaw_of_enabled he ⟨hd, hi, hl, hdiv, hs, fun h => ?_⟩
    simpa [hq] using fillingSide_filling h

theorem move_keeps_branchLaw {s t : State} (h : ∀ b : BranchNo, branchLaw s.bu[b]) (hm : Move s t) :
    ∀ b : BranchNo, branchLaw t.bu[b] := by
  cases hm with
  | work hw =>
    cases hw with
    | beside hs => rwa [hs.bu]
    | branches hb =>
      intro b
      rcases hb b with hsame | hmove
      · exact hsame ▸ h b
      · exact hmove.keeps_branchLaw (h b)
    | _ => exact h
  | line h => rwa [h.bu]
  | tracker => exact h
  | resetEnds =>
    intro b
    have hreset : (endReset s).bu[b] = Branch.disabledWith BranchConfig.default := Vector.getElem_replicate ..
    rw [hreset]
    exact branchLaw_disabledWith (by decide) (by decide)

/-- Settles O59: every change of a Branch Unit keeps the law, and a step is a run of changes. -/
theorem branchLawIsKept : Obligations.BranchLawIsKept := fun _ _ h hstep =>
  step_keeps (P := fun s => ∀ b : BranchNo, branchLaw s.bu[b]) (fun _ _ => move_keeps_branchLaw) h hstep

end Sys2Proof.Machine
end

section
/-! The law of the two maps, kept by every change of the Map Unit. -/

namespace Sys2Proof.Machine
open Relation

/-! ### The law of the two maps -/

/-- A map has a SERVICE entry below its length exactly where one of its indices says so (R36). -/
theorem hasService_iff (m : SlotMap) :
    hasService m = true ↔ ∃ i : SlotIx, i.val < m.length ∧ m.entries[i] = .service := by
  unfold hasService
  rw [List.contains_iff_mem, List.mem_iff_getElem]
  constructor
  · rintro ⟨k, hk, he⟩
    simp only [List.length_take, Vector.length_toList] at hk
    refine ⟨⟨k, by omega⟩, by dsimp only; omega, ?_⟩
    simpa using he
  · rintro ⟨i, hi, he⟩
    exact ⟨i.val, by simpa using hi, by simpa using he⟩

theorem merged_entry (m : MapUnit) (set : BitVec 5) (i : SlotIx) :
    (merged m set).entries[i] = if moves m set i then m.pendingMap.entries[i] else m.live.entries[i] := by
  simp [merged]

theorem firedMap_entry (m : MapUnit) (set : BitVec 5) (g : Byte) (i : SlotIx) :
    (firedMap m set g).entries[i] = if guardedIndex m set g i then .guard
      else if moves m set i then m.pendingMap.entries[i] else m.live.entries[i] := by
  simp [firedMap]

@[simp] theorem guardFinished_length (m : MapUnit) : (guardFinished m).length = m.live.length := by
  rw [guardFinished]

theorem guardFinished_entry (m : MapUnit) (i : SlotIx) :
    (guardFinished m).entries[i] = if m.live.entries[i]
        = .guard then m.pendingMap.entries[i] else m.live.entries[i] := by
  simp [guardFinished]

/-- A guarded index takes a branch slot, so its merged entry is not SERVICE (R68). -/
theorem merged_ne_service_of_guarded {m : MapUnit} {set : BitVec 5} {g : Byte} {i : SlotIx}
    (h : guardedIndex m set g i = true) : (merged m set).entries[i] ≠ .service := by
  simp only [guardedIndex, Bool.and_eq_true] at h
  obtain ⟨⟨⟨hm, _⟩, _⟩, hb⟩ := h
  rw [merged_entry, if_pos hm]
  intro hs
  simp [hs, Entry.branch] at hb

theorem hasService_firedMap {m : MapUnit} {set : BitVec 5} {g : Byte} (h : hasService (merged m set) = true) :
    hasService (firedMap m set g) = true := by
  rw [hasService_iff] at h ⊢
  obtain ⟨i, hi, he⟩ := h
  refine ⟨i, hi, ?_⟩
  have hg : ¬guardedIndex m set g i = true := fun hg => merged_ne_service_of_guarded hg he
  rw [firedMap_entry, if_neg hg, ← merged_entry, he]

theorem hasService_guardFinished {m : MapUnit} (h : hasService m.live = true) :
    hasService (guardFinished m) = true := by
  rw [hasService_iff] at h ⊢
  obtain ⟨i, hi, he⟩ := h
  refine ⟨i, by simpa using hi, ?_⟩
  rw [guardFinished_entry, he, if_neg (by decide)]

/-- With nothing guarded a fired map holds no GUARD (R70). -/
theorem firedMap_ne_guard {m : MapUnit} {set : BitVec 5} {g : Byte} (h0 : guardedCount m set g = 0)
    (hp : ∀ i : SlotIx, m.pendingMap.entries[i] ≠ .guard) (hl : ∀ i : SlotIx, m.live.entries[i] ≠ .guard)
    (i : SlotIx) : (firedMap m set g).entries[i] ≠ .guard := by
  have hg : ¬guardedIndex m set g i = true := by
    have := List.countP_eq_zero.mp h0 i (List.mem_finRange i)
    exact this
  rw [firedMap_entry, if_neg hg]
  split
  · exact hp i
  · exact hl i

theorem guardFinished_ne_guard {m : MapUnit} (hp : ∀ i : SlotIx, m.pendingMap.entries[i] ≠ .guard) (i : SlotIx) :
    (guardFinished m).entries[i] ≠ .guard := by
  rw [guardFinished_entry]
  split
  · exact hp i
  · assumption

theorem lengthOk_mergedLength {m : MapUnit} (hl : lengthOk m.live) (hp : lengthOk m.pendingMap) (set : BitVec 5) :
    4 ≤ mergedLength m set ∧ mergedLength m set ≤ 120 := by
  unfold mergedLength
  split
  · exact hp
  · exact hl

/-- A map law whose switch has ended: Live holds no GUARD, and nothing is left of what ARM checked. -/
theorem mapLaw_ended {m : MapUnit} (hl : lengthOk m.live) (hp : lengthOk m.pendingMap) (hs : hasService m.live = true)
    (hpg : ∀ i : SlotIx, m.pendingMap.entries[i] ≠ .guard) (hlg : ∀ i : SlotIx, m.live.entries[i] ≠ .guard)
    (hi : m.switch.state = .idle) : mapLaw m :=
  ⟨hl, hp, hs, hpg, fun _ => hlg, fun ha => by simp [hi] at ha⟩

theorem mapLaw_completeGuard {m : MapUnit} (h : mapLaw m) (why : OutcomeReason) : mapLaw (completeGuard m why) := by
  obtain ⟨hl, hp, hs, hpg, _, _⟩ := h
  have hlen : lengthOk (guardFinished m) := by rwa [lengthOk, guardFinished_length]
  have hservice : hasService (guardFinished m) = true := hasService_guardFinished hs
  have hguard : ∀ i : SlotIx, (guardFinished m).entries[i] ≠ .guard := guardFinished_ne_guard hpg
  exact mapLaw_ended hlen hp hservice hpg hguard rfl

theorem mapLaw_endRecord {m : MapUnit} (h : mapLaw m) (ha : m.switch.state ≠ .guarding) (o : SwitchOutcome)
    (why : OutcomeReason) : mapLaw { m with switch := endRecord m.switch o why } := by
  obtain ⟨hl, hp, hs, hpg, hlg, _⟩ := h
  exact mapLaw_ended hl hp hs hpg (hlg ha) rfl

theorem mapLaw_fireSwitch {m : MapUnit} (h : mapLaw m) (ha : m.switch.state = .armed) : mapLaw (fireSwitch m).1 := by
  obtain ⟨hl, hp, _, hpg, hlg, hm⟩ := h
  have hlen := lengthOk_mergedLength hl hp m.switch.groups
  have hfired := hasService_firedMap (g := m.switch.guardLength) (hm ha)
  unfold fireSwitch
  dsimp only
  split
  · exact mapLaw_ended hlen hp hfired hpg (firedMap_ne_guard ‹_› hpg (hlg (by simp [ha]))) rfl
  · exact ⟨hlen, hp, hfired, hpg, fun hne => absurd rfl hne, fun hne => by cases hne⟩

theorem mapLaw_switchNotice {m : MapUnit} (h : mapLaw m) (n : Byte) (jump : Bool) :
    mapLaw (switchNotice n jump m).1 := by
  have hrec : mapLaw (recordHeader m n) := h
  unfold switchNotice
  dsimp only
  split_ifs with hf hg ha
  · refine mapLaw_fireSwitch hrec ?_
    simp only [fireDue, Bool.and_eq_true, decide_eq_true_eq] at hf
    exact hf.1.1
  · exact mapLaw_completeGuard hrec _
  · refine mapLaw_endRecord hrec ?_ _ _
    simp only [abandonDue, Bool.and_eq_true, decide_eq_true_eq] at ha
    rw [ha.1]
    decide
  · exact hrec

theorem mapLaw_switchLockLost {m : MapUnit} (h : mapLaw m) : mapLaw (switchLockLost m).1 := by
  unfold switchLockLost
  split
  · exact h
  · exact mapLaw_endRecord h (by simp [*]) _ _
  · exact mapLaw_completeGuard h _

theorem mapLaw_switchRestart {m : MapUnit} (h : mapLaw m) : mapLaw (switchRestart m) := by
  unfold switchRestart
  split
  · exact h
  · exact mapLaw_endRecord h (by simp [*]) _ _
  · exact mapLaw_completeGuard h _

theorem bootstrap_entry (i : SlotIx) :
    SlotMap.bootstrap.entries[i] = if i.val = 0 ∨ i.val = 8 then .service else .pass := by
  simp only [SlotMap.bootstrap, Fin.getElem_fin, Vector.getElem_set, Vector.getElem_replicate]
  grind

theorem bootstrap_ne_guard (i : SlotIx) : SlotMap.bootstrap.entries[i] ≠ .guard := by
  rw [bootstrap_entry]
  split_ifs <;> simp

theorem lengthOk_bootstrap : lengthOk SlotMap.bootstrap := by decide

theorem hasService_bootstrap : hasService SlotMap.bootstrap = true :=
  (hasService_iff _).mpr ⟨0, by decide, bootstrap_entry 0⟩

theorem mapLaw_loadBootstrap (m : MapUnit) : mapLaw (loadBootstrap m) := by
  refine ⟨lengthOk_bootstrap, lengthOk_bootstrap, hasService_bootstrap, bootstrap_ne_guard,
    fun _ => bootstrap_ne_guard, fun _ => ?_⟩
  rw [hasService_iff]
  refine ⟨0, ?_, ?_⟩
  · simp only [merged, mergedLength]
    split <;> exact (by decide : 0 < 16)
  · rw [merged_entry]
    split <;> exact bootstrap_entry 0

theorem storeEntries_ne_guard {es : List Entry} (hes : ∀ e ∈ es, e ≠ .guard) {v : Vector Entry 120}
    (hv : ∀ i : SlotIx, v[i] ≠ .guard) (first : Nat) (i : SlotIx) : (storeEntries v first es)[i] ≠ .guard := by
  induction es generalizing v first with
  | nil => exact hv i
  | cons e es ih =>
    refine ih (fun x hx => hes x (List.mem_cons_of_mem _ hx)) (fun j => ?_) (first + 1)
    simp only [Fin.getElem_fin, Vector.getElem_setIfInBounds]
    split
    · exact hes e (by simp)
    · exact hv j

/-- The law where only Pending changes and no switch is in flight (R37). -/
theorem mapLaw_pending {m : MapUnit} (h : mapLaw m) (hi : m.switch.state = .idle) {p : SlotMap} (hp : lengthOk p)
    (hpg : ∀ i : SlotIx, p.entries[i] ≠ .guard) : mapLaw { m with pendingMap := p } := by
  obtain ⟨hl, _, hs, _, hlg, _⟩ := h
  exact mapLaw_ended hl hp hs hpg (hlg (by simp [hi])) hi

/-- Every change of the Map Unit keeps its law (R32, R33, R36, R37). -/
theorem MapMove.keeps_mapLaw {m m' : MapUnit} (h : mapLaw m) (hm : MapMove m m') : mapLaw m' := by
  obtain ⟨hl, hp, hs, hpg, hlg, _⟩ := id h
  cases hm with
  | noticed n jump => exact mapLaw_switchNotice h n jump
  | lockLost => exact mapLaw_switchLockLost h
  | restarted => exact mapLaw_switchRestart h
  | bootstrapped => exact mapLaw_loadBootstrap m
  | written first hi hes => exact mapLaw_pending h hi hp (storeEntries_ne_guard hes hpg first)
  | lengthSet hi h4 h120 => exact mapLaw_pending h hi ⟨h4, h120⟩ hpg
  | copied hi => exact mapLaw_pending h hi hl (hlg (by simp [hi]))
  | armed hi hr hservice => exact ⟨hl, hp, hs, hpg, fun _ => hlg (by simp [hi]), fun _ => hservice⟩
  | cancelled ha => exact mapLaw_endRecord h (by simp [ha]) _ _

theorem mapLaw_reset : mapLaw MapUnit.reset :=
  mapLaw_ended lengthOk_bootstrap lengthOk_bootstrap hasService_bootstrap bootstrap_ne_guard bootstrap_ne_guard rfl

theorem move_keeps_mapLaw {s t : State} (h : mapLaw s.mu) (hm : Move s t) : mapLaw t.mu := by
  cases hm with
  | work hw =>
    cases hw with
    | beside hs => rwa [hs.mu]
    | maps hmap => exact hmap.keeps_mapLaw h
    | _ => exact h
  | line h => rwa [h.mu]
  | tracker => exact h
  | resetEnds => exact mapLaw_reset

/-- Settles O57: every change of the Map Unit keeps the law, and a step is a run of changes. -/
theorem mapLawIsKept : Obligations.MapLawIsKept := fun _ _ h hstep =>
  step_keeps (P := fun s => mapLaw s.mu) (fun _ _ => move_keeps_mapLaw) h hstep

end Sys2Proof.Machine
end

section
/-! The laws of the Pattern Unit and of the Cycle Tracker, kept by every change of those blocks. -/

namespace Sys2Proof.Machine
open Relation

/-! ### The law of the Pattern Unit -/

theorem satInc_toNat (w : Word16) : (satInc w).toNat = min 65535 (w.toNat + 1) := by
  unfold satInc
  split_ifs with h
  · subst h
    rfl
  · have : w.toNat ≠ 65535 := fun h' => h (BitVec.eq_of_toNat_eq h')
    have hlt := w.isLt
    rw [BitVec.toNat_add, show (1 : Word16).toNat = 1 from rfl]
    omega

theorem slideWindow_length {w : List Bool} (h : w.length ≤ 8) (x : Bool) : (slideWindow w x).length ≤ 8 := by
  unfold slideWindow
  dsimp only
  split_ifs with h8
  · simp only [List.length_drop, List.length_append, List.length_singleton]
    omega
  · omega

/-- An element taken in SEEK either leaves the checker there or locks it with a register and an empty window; the rest
of the unit stands (R152 to R154). -/
inductive SeekResult (p : PatternUnit) : PatternUnit → Prop
  | seeks (r : Option PatternRegister) (x : SeekProgress) :
      SeekResult p { p with checkerRegister := r, progress := x }
  | locks (r : PatternRegister) : SeekResult p (toLocked p r)

theorem loadSeeds_result (p : PatternUnit) (b1 b2 : Byte) : SeekResult p (loadSeeds p b1 b2) := by
  unfold loadSeeds
  split
  · exact .seeks _ _
  · exact .seeks _ _

theorem seekPrbs_result (p : PatternUnit) (v : Byte) : SeekResult p (seekPrbs p v) := by
  unfold seekPrbs
  split
  · exact loadSeeds_result p _ v
  · exact .seeks _ _
  · dsimp only
    split
    · exact .locks _
    · exact loadSeeds_result p _ v
  · exact .seeks p.checkerRegister _

theorem alignWord_result (p : PatternUnit) (v : Byte) : SeekResult p (alignWord p v) := by
  unfold alignWord
  split_ifs <;> exact .seeks _ _

theorem seekByte_result {take : PatternUnit → Byte → PatternUnit} (htake : ∀ p v, SeekResult p (take p v))
    (p : PatternUnit) (v : Byte) : SeekResult p (seekByte take p v) := by
  unfold seekByte
  split
  · dsimp only
    split
    · exact .locks _
    · exact htake p v
  · exact htake p v

theorem seekElement_result (p : PatternUnit) (e : Option Byte) : SeekResult p (seekElement p e) := by
  cases e with
  | none => exact .seeks none .empty
  | some v =>
    unfold seekElement
    cases p.config.checkerPattern with
    | prbs9 | prbs15 => exact seekPrbs_result p v
    | count => exact seekByte_result (fun p v => .seeks _ _) p v
    | word => exact seekByte_result alignWord_result p v

theorem patternLaw_toSeek {p : PatternUnit} (h : patternLaw p) (hoff : p.checker ≠ .off) : patternLaw (toSeek p) := by
  obtain ⟨ho, _, _, _, _, h2, h8, he⟩ := h
  exact ⟨⟨fun h => by simp [toSeek] at h, fun hc => absurd (ho.mpr hc) hoff⟩, Nat.zero_le _, fun _ => rfl,
    fun h => by simp [toSeek] at h, fun h => by simp [toSeek] at h, h2, h8, he⟩

theorem patternLaw_toLocked {p : PatternUnit} (h : patternLaw p) (hoff : p.checker ≠ .off) (r : PatternRegister) :
    patternLaw (toLocked p r) := by
  obtain ⟨ho, _, _, _, _, h2, h8, he⟩ := h
  exact ⟨⟨fun h => by simp [toLocked] at h, fun hc => absurd (ho.mpr hc) hoff⟩, Nat.zero_le _, fun _ => rfl,
    fun _ => rfl, fun h => by simp [toLocked] at h, h2, h8, he⟩

theorem patternLaw_seekElement {p : PatternUnit} (h : patternLaw p) (hs : p.checker = .seek) (e : Option Byte) :
    patternLaw (seekElement p e) := by
  have hoff : p.checker ≠ .off := by simp [hs]
  have hres := seekElement_result p e
  generalize seekElement p e = q at hres
  cases hres with
  | seeks r x =>
    obtain ⟨ho, hw, hwe, hl, _, h2, h8, he⟩ := h
    exact ⟨ho, hw, hwe, fun hlock => by simp [hs] at hlock, fun hoff' => absurd hoff' hoff, h2, h8, he⟩
  | locks r => exact patternLaw_toLocked h hoff r

theorem patternLaw_judged {p : PatternUnit} (h : patternLaw p) (hl : p.checker = .locked) (r : PatternRegister)
    (e : Option Byte) : patternLaw (judged p r e) := by
  obtain ⟨ho, hw, _, _, _, h2, h8, he⟩ := h
  refine ⟨ho, slideWindow_length hw _, fun h => absurd hl h, fun _ => rfl, fun h => ?_, h2, h8, ?_⟩
  · simp [judged, hl] at h
  · have hc := satInc_toNat p.checked
    have hr := satInc_toNat p.errors
    by_cases hrun : p.run = .running
    · simp only [judged, hrun, if_true, true_and]
      split <;> omega
    · simpa [judged, hrun] using he

theorem patternLaw_resync {p : PatternUnit} (h : patternLaw p) (hoff : p.checker ≠ .off) : patternLaw (resync p) := by
  have hseek : patternLaw (toSeek p) := patternLaw_toSeek h hoff
  exact hseek

theorem patternLaw_judgeElement {p : PatternUnit} (h : patternLaw p) (hl : p.checker = .locked) (e : Option Byte) :
    patternLaw (judgeElement p e).1 := by
  unfold judgeElement
  split
  · exact h
  · rename_i r _
    have hj := patternLaw_judged h hl r e
    have hq : patternLaw (if resyncDue (judged p r e) then resync (judged p r e) else judged p r e) := by
      split
      · exact patternLaw_resync hj (by simp [judged, hl])
      · exact hj
    dsimp only
    generalize (if resyncDue (judged p r e) then resync (judged p r e) else judged p r e) = q at hq
    split
    · exact hq
    · exact hq

theorem patternLaw_checkElement {p : PatternUnit} (h : patternLaw p) (e : Option Byte) :
    patternLaw (checkElement p e).1 := by
  unfold checkElement
  split
  · exact h
  · exact patternLaw_seekElement h ‹_› e
  · exact patternLaw_judgeElement h ‹_› e

theorem patternLaw_generate {p : PatternUnit} (h : patternLaw p) : patternLaw (generate p).2 := by
  unfold generate
  split
  · exact h
  · exact h

theorem patternLaw_patternLockLost {p : PatternUnit} (h : patternLaw p) : patternLaw (patternLockLost p) := by
  unfold patternLockLost
  split
  · exact h
  all_goals exact patternLaw_toSeek h (by simp [*])

theorem patternLaw_applyConfig {p : PatternUnit} (h : patternLaw p) {c : PatternConfig} (h2 : 2 ≤ c.threshold)
    (h8 : c.threshold ≤ 8) : patternLaw (applyConfig c p) := by
  obtain ⟨ho, hw, hwe, hl, hoff, _, _, he⟩ := h
  suffices hset : patternLaw (setChecker c p) from hset
  unfold setChecker
  dsimp only
  split_ifs with hon hsame
  · have hc : c.checkerOn = false := by simpa using hon
    exact ⟨⟨fun _ => hc, fun _ => rfl⟩, Nat.zero_le _, fun _ => rfl, fun h => (nomatch h), fun _ => ⟨rfl, rfl⟩, h2, h8,
        he⟩
  · have hc : c.checkerOn = true := by simpa using hon
    have hp : p.config.checkerOn = true := by
      rw [Bool.and_eq_true] at hsame
      exact hsame.1
    have hno : p.checker ≠ .off := fun h => by simp [ho.mp h] at hp
    exact ⟨⟨fun h => absurd h hno, fun h => by simp [hc] at h⟩, hw, hwe, hl, hoff, h2, h8, he⟩
  · have hc : c.checkerOn = true := by simpa using hon
    exact ⟨⟨fun h => (nomatch h), fun h => by simp [toSeek, hc] at h⟩, Nat.zero_le _, fun _ => rfl,
      fun h => (nomatch h), fun h => (nomatch h), h2, h8, he⟩

theorem patternLaw_startRun {p : PatternUnit} (h : patternLaw p) (m : RunMode) (l : RunLength) :
    patternLaw (startRun m l p) := by
  obtain ⟨ho, _, _, hl, hoff, h2, h8, _⟩ := h
  exact ⟨ho, Nat.zero_le _, fun _ => rfl, hl, hoff, h2, h8, le_rfl⟩

/-- Every change of the Pattern Unit keeps its law (R148, R152, R155 to R160). -/
theorem PatternMove.keeps_patternLaw {p q : PatternUnit} (h : patternLaw p) (hm : PatternMove p q) : patternLaw q := by
  cases hm with
  | element e => exact patternLaw_generate (patternLaw_checkElement h e)
  | lockLost => exact patternLaw_patternLockLost h
  | cleared =>
    obtain ⟨ho, hw, hwe, hl, hoff, h2, h8, _⟩ := h
    exact ⟨ho, hw, hwe, hl, hoff, h2, h8, le_rfl⟩
  | configured h2 h8 => exact patternLaw_applyConfig h h2 h8
  | started m l => exact patternLaw_startRun h m l
  | stopped => exact h

theorem patternLaw_reset : patternLaw PatternUnit.reset := by
  simp [patternLaw, PatternUnit.reset]

theorem move_keeps_patternLaw {s t : State} (h : patternLaw s.pu) (hm : Move s t) : patternLaw t.pu := by
  cases hm with
  | work hw =>
    cases hw with
    | beside hs => rwa [hs.pu]
    | pattern hp => exact hp.keeps_patternLaw h
    | _ => exact h
  | line h => rwa [h.pu]
  | tracker => exact h
  | resetEnds => exact patternLaw_reset

/-! ### The law of the Cycle Tracker -/

/-- What the law says of a tracker that is not LOCKED. -/
theorem trackerLaw_unlocked_iff {c : CycleTracker} (hl : c.lock ≠ .locked) :
    trackerLaw c ↔ c.cycle = none ∧ c.coasting = false
      ∧ (∀ i : SlotIx, c.position = .slot i → 1 ≤ c.slotsToGo ∧ i.val + c.slotsToGo ≤ 120)
      ∧ c.tally ≤ 7 ∧ c.missCount ≤ 7 ∧ c.slotsToGo ≤ 120 ∧ c.fallbackCount ≤ 65280 := by
  simp [trackerLaw, hl]

theorem trackerLaw_of_unlocked {c : CycleTracker} (hl : c.lock ≠ .locked)
    (h : c.cycle = none ∧ c.coasting = false
      ∧ (∀ i : SlotIx, c.position = .slot i → 1 ≤ c.slotsToGo ∧ i.val + c.slotsToGo ≤ 120)
      ∧ c.tally ≤ 7 ∧ c.missCount ≤ 7 ∧ c.slotsToGo ≤ 120 ∧ c.fallbackCount ≤ 65280) : trackerLaw c :=
  (trackerLaw_unlocked_iff hl).mpr h

theorem trackerLaw_toHunt {c : CycleTracker} (h : trackerLaw c) (hl : c.lock ≠ .locked) : trackerLaw (toHunt c) := by
  obtain ⟨hc, hco, _, _, hm, _, hf⟩ := (trackerLaw_unlocked_iff hl).mp h
  exact trackerLaw_of_unlocked (by simp [toHunt])
    ⟨hc, hco, fun i hi => by simp [toHunt] at hi, Nat.zero_le _, hm, Nat.zero_le _, hf⟩

theorem trackerLaw_toConfirm {c : CycleTracker} (h : trackerLaw c) (hl : c.lock ≠ .locked) :
    trackerLaw (toConfirm c) := by
  obtain ⟨hc, hco, _, _, hm, _, hf⟩ := (trackerLaw_unlocked_iff hl).mp h
  exact trackerLaw_of_unlocked (by simp [toConfirm])
    ⟨hc, hco, fun i hi => by simp [toConfirm] at hi, Nat.zero_le _, hm, Nat.zero_le _, hf⟩

theorem trackerLaw_confirmNumber {c : CycleTracker} (h : trackerLaw c) (hl : c.lock ≠ .locked) (ht : c.tally + 1 ≤ 7)
    {live : Nat} (h1 : 1 ≤ live) (h120 : live ≤ 120) (n : Byte) : trackerLaw (confirmNumber n live c) := by
  obtain ⟨hc, hco, _, _, hm, _, hf⟩ := (trackerLaw_unlocked_iff hl).mp h
  refine trackerLaw_of_unlocked hl ⟨hc, hco, fun i hi => ?_, ht, hm, h120, hf⟩
  cases hi
  exact ⟨h1, by simpa [confirmNumber] using h120⟩

/-- The slots of a cycle are counted down to header position 0 (R15, R18). -/
theorem trackerLaw_slotTaken {c : CycleTracker} (h : trackerLaw c) {i : SlotIx} (hp : c.position = .slot i) :
    trackerLaw (slotTaken i c) := by
  obtain ⟨hc, hco, _, hs, ht, hm, hgo, hf, hfl⟩ := h
  obtain ⟨h1, h120⟩ := hs i hp
  have hgo' : c.slotsToGo - 1 ≤ 120 := by omega
  unfold slotTaken
  split_ifs with hle
  · exact ⟨hc, hco, fun _ => ⟨by simp, by simp⟩, fun j hj => (nomatch hj), ht, hm, hgo', hf, hfl⟩
  · refine ⟨hc, hco, fun _ => ⟨by simp, by simp⟩, fun j hj => ?_, ht, hm, hgo', hf, hfl⟩
    cases hj
    have hi : i.val + 1 < 120 := by omega
    have hval : (i + 1 : SlotIx).val = i.val + 1 := by
      rw [Fin.val_add, show (1 : SlotIx).val = 1 from rfl, Nat.mod_eq_of_lt hi]
    dsimp only
    omega

theorem trackerLaw_unlockedNext {c : CycleTracker} (h : trackerLaw c) (hl : c.lock ≠ .locked) {k : Byte}
    (hk : k.toNat ≤ 7) {ch : TrunkChar} (hg : gainsLock c k ch = none) {live : Nat} (h1 : 1 ≤ live)
        (h120 : live ≤ 120) :
    trackerLaw (unlockedNext live ch c) := by
  have hhunt := trackerLaw_toHunt h hl
  have hconfirm := trackerLaw_toConfirm h hl
  unfold unlockedNext
  split
  · split
    · obtain ⟨hc, hco, hs, _, hm, hgo, hf⟩ := (trackerLaw_unlocked_iff hl).mp h
      have h0 : trackerLaw { c with tally := 0 } :=
        trackerLaw_of_unlocked hl ⟨hc, hco, hs, Nat.zero_le _, hm, hgo, hf⟩
      exact trackerLaw_confirmNumber h0 hl (by simp) h1 h120 _
    all_goals assumption
  · exact trackerLaw_slotTaken h ‹_›
  · split
    · obtain ⟨hc, hco, hs, ht, hm, hgo, hf⟩ := (trackerLaw_unlocked_iff hl).mp h
      exact trackerLaw_of_unlocked hl ⟨hc, hco, fun i hi => (nomatch hi), ht, hm, hgo, hf⟩
    · exact hhunt
  · rename_i hlock hpos
    split
    · rename_i n
      split_ifs with href
      · have hno : ¬(k.toNat ≤ c.tally + 1) := by
          intro hle
          simp [gainsLock, hlock, hpos, href, hle] at hg
        exact trackerLaw_confirmNumber h hl (by omega) h1 h120 n
      · exact hhunt
    all_goals assumption
  · split <;> assumption

theorem trackerLaw_lockedOn {c : CycleTracker} (h : trackerLaw c) (hp : c.position = .header1) (n : Byte) :
    trackerLaw (lockedOn n c) := by
  obtain ⟨_, _, _, _, _, _, hgo, _, _⟩ := h
  exact ⟨by simp [lockedOn], by simp [lockedOn], fun _ => by simp [lockedOn, hp], fun i hi => by simp [lockedOn,
      hp] at hi,
    Nat.zero_le _, Nat.zero_le _, hgo, Nat.zero_le _, fun _ => rfl⟩

theorem trackerLaw_lockLostTracker {c : CycleTracker} (h : trackerLaw c) : trackerLaw (lockLostTracker c) := by
  obtain ⟨_, _, _, _, ht, _, _, hf, _⟩ := h
  exact trackerLaw_of_unlocked (by simp [lockLostTracker])
    ⟨rfl, rfl, fun i hi => (nomatch hi), ht, Nat.zero_le _, Nat.zero_le _, hf⟩

theorem missLimit_le {n : NodeSettings} (h : n.valid = true) : n.missLimit.toNat ≤ 7 := by
  simp only [NodeSettings.valid, decide_eq_true_eq] at h
  exact h.2.2.2.2.2

theorem confirmCount_le {n : NodeSettings} (h : n.valid = true) : n.confirmCount.toNat ≤ 7 := by
  simp only [NodeSettings.valid, decide_eq_true_eq] at h
  exact h.2.2.2.1

/-- Every change of the Cycle Tracker keeps its law, under the law of the maps and valid settings (R13, R18, R26). -/
theorem TrackerMove.keeps_trackerLaw {s : State} (hmap : mapLaw s.mu) (hnode : s.me.node.valid = true)
    (h : trackerLaw s.ct) {c : CycleTracker} (hm : TrackerMove s c) : trackerLaw c := by
  have hlive : 4 ≤ s.mu.live.length ∧ s.mu.live.length ≤ 120 := hmap.1
  obtain ⟨hc, hco, hpos, hs, ht, hmiss, hgo, hf, hfl⟩ := id h
  cases hm with
  | unlocked hl hg => exact trackerLaw_unlockedNext h hl (confirmCount_le hnode) hg (by omega) hlive.2
  | gained n hp => exact trackerLaw_lockedOn h hp n
  | fallbackCleared => exact ⟨hc, hco, hpos, hs, ht, hmiss, hgo, Nat.zero_le _, fun _ => rfl⟩
  | fallbackCounted hl h0 hr =>
    have hthr := s.me.node.fallbackThreshold.isLt
    have : s.ct.fallbackCount + 1 < 256 * s.me.node.fallbackThreshold.toNat := by
      simp only [fallbackReached, decide_eq_false_iff_not, not_and, not_le] at hr
      exact hr h0
    exact ⟨hc, hco, hpos, hs, ht, hmiss, hgo, by dsimp only; omega, fun h => absurd h hl⟩
  | lost => exact trackerLaw_lockLostTracker h
  | synced hl =>
    exact ⟨hc, fun h => (nomatch h), fun _ => by simp, fun i hi => (nomatch hi), ht, Nat.zero_le _, hgo, hf, hfl⟩
  | missed hl hml =>
    have hlim := missLimit_le hnode
    have : s.ct.missCount + 1 < s.me.node.missLimit.toNat := by simpa [missLosesLock] using hml
    exact ⟨hc, fun _ => hl, fun _ => by simp, fun i hi => (nomatch hi), ht, by dsimp only; omega, hgo, hf, hfl⟩
  | numbered hl n => exact ⟨by simp [hl], hco, hpos, hs, ht, hmiss, hgo, hf, hfl⟩
  | headed =>
    refine ⟨hc, hco, fun _ => by simp, fun i hi => ?_, ht, hmiss, hlive.2, hf, hfl⟩
    cases hi
    exact ⟨by dsimp only; omega, by simpa using hlive.2⟩
  | slotTaken hp => exact trackerLaw_slotTaken h hp

theorem ExecutiveMove.keeps_valid {c : FrameContext} {m m' : Management} (h : m.node.valid = true)
    (hm : ExecutiveMove c m m') : m'.node.valid = true := by
  cases hm with
  | settings hn => exact hn
  | noticed =>
    unfold sessionNotice
    split
    · exact h
    · split <;> exact h
  | touched r =>
    unfold touchSession
    split <;> exact h
  | _ => exact h

theorem move_keeps_valid {s t : State} (h : s.me.node.valid = true) (hm : Move s t) : t.me.node.valid = true := by
  cases hm with
  | work hw =>
    cases hw with
    | beside hs => rwa [hs.me]
    | executive he => exact he.keeps_valid h
    | _ => exact h
  | line h => rwa [h.me]
  | tracker => exact h
  | resetEnds => exact (by decide : NodeSettings.default.valid = true)

theorem trackerLaw_reset : trackerLaw CycleTracker.reset := by simp [trackerLaw, CycleTracker.reset]

theorem move_keeps_trackerLaw {s t : State} (h : mapLaw s.mu ∧ s.me.node.valid = true ∧ trackerLaw s.ct)
    (hm : Move s t) : mapLaw t.mu ∧ t.me.node.valid = true ∧ trackerLaw t.ct := by
  obtain ⟨hmap, hnode, hct⟩ := h
  refine ⟨move_keeps_mapLaw hmap hm, move_keeps_valid hnode hm, ?_⟩
  cases hm with
  | work hw => rwa [(Work.ct_eq (.single hw))]
  | line h => rwa [h.ct]
  | tracker htr => exact htr.keeps_trackerLaw hmap hnode hct
  | resetEnds => exact trackerLaw_reset

/-- Settles O60: every change of CT keeps its law beside those of the maps and the settings, every change of the Pattern
Unit keeps its own, and a step is a run of changes. -/
theorem trackerLawIsKept : Obligations.TrackerLawIsKept :=
  ⟨fun _ _ hmap hnode hct hstep =>
    (step_keeps (P := fun s => mapLaw s.mu ∧ s.me.node.valid = true ∧ trackerLaw s.ct)
      (fun _ _ => move_keeps_trackerLaw) ⟨hmap, hnode, hct⟩ hstep).2.2,
   fun _ _ h hstep => step_keeps (P := fun s => patternLaw s.pu) (fun _ _ => move_keeps_patternLaw) h hstep⟩

end Sys2Proof.Machine
end

section
/-! The laws of the frame in passage and of the Executive, kept by every change of those blocks; and the laws at
reset. -/

namespace Sys2Proof.Machine
open Relation

/-! ### The law of the frame in passage -/

/-- What the law says of a frame past its header whose parameters are in (R105, R107). -/
theorem frameLaw_passed {c : FrameContext} (hroom : roomOf c ≤ 32) (hlen : lengthOf c ≤ 32)
    (hparams : c.params.length ≤ 32) (hplace : c.place ≤ 35) (hfinish : c.parser = .finish → c.place = 0)
    (hcheck : c.parser = .reqCheck ∨ c.parser = .turn → c.place ≤ 1)
    (hreply : c.parser = .reply → c.place < roomOf c + 4)
    (hp : c.parser ≠ .idle ∧ c.parser ≠ .header ∧ c.parser ≠ .params) : frameLaw c := by
  obtain ⟨hi, hh, hpp⟩ := hp
  exact ⟨fun h => hfinish (h.resolve_left hi), fun h => absurd h hh, fun h => absurd h hpp, hcheck, hreply,
    fun _ _ => ⟨hroom, hlen⟩, hparams, hplace⟩

theorem frameLaw_begin (c : FrameContext) : frameLaw (beginContext c) := by simp [frameLaw, beginContext]

theorem frameLaw_end {c : FrameContext} (h : c.params.length ≤ 32) : frameLaw (endContext c) := by
  simp [frameLaw, endContext, h]

theorem frameLaw_header {c : FrameContext} (h : frameLaw c) (hp : c.parser = .header) {address v : Byte}
    (hv : 6 ≤ c.place → v.toNat ≤ 32) : frameLaw (headerContext address v c) := by
  obtain ⟨_, hh, _⟩ := h
  obtain ⟨h7, hparams, hroom⟩ := hh hp
  unfold headerContext
  rcases hk : c.place with _ | _ | _ | _ | _ | _ | _ | n
  case succ.succ.succ.succ.succ.succ.succ =>
    obtain rfl : n = 0 := by omega
    have hv32 : v.toNat ≤ 32 := hv (by omega)
    have hroom32 : roomOf c ≤ 32 := hroom (by omega)
    by_cases h0 : v = 0
    · subst h0
      simpa [frameLaw, afterLength, coverByte, hparams, roomOf, lengthOf] using hroom32
    · have hpos : 0 < v.toNat := by
        by_contra hn
        exact h0 (BitVec.eq_of_toNat_eq (by simpa using hn))
      simp only [frameLaw, afterLength, coverByte, h0, hparams, roomOf, lengthOf] at hroom32 ⊢
      simp [hpos, hv32, hroom32]
  case succ.succ.succ.succ.succ.succ.zero =>
    have hv32 : v.toNat ≤ 32 := hv (by omega)
    simp [frameLaw, coverByte, hp, hk, hparams, roomOf, hv32]
  all_goals simp [frameLaw, coverByte, hp, hk, hparams]

theorem frameLaw_param {c : FrameContext} (h : frameLaw c) (hp : c.parser = .params) (v : Byte) :
    frameLaw (takeParam v c) := by
  obtain ⟨_, _, hpar, _, _, hrl, _, _⟩ := h
  obtain ⟨hlt, hlen⟩ := hpar hp
  obtain ⟨hroom, hlength⟩ := hrl (by simp [hp]) (by simp [hp])
  have hparams : (c.params ++ [v]).length = c.place + 1 := by simp [hlen]
  unfold takeParam
  dsimp only
  split_ifs with hlast
  · exact frameLaw_passed hroom hlength (by dsimp only [coverByte]; omega) (Nat.zero_le _) (fun _ => rfl)
      (fun _ => Nat.zero_le _) (fun h => (nomatch h)) (by simp)
  · have hlast : c.place + 1 ≠ lengthOf c := hlast
    refine ⟨fun h => ?_, fun h => ?_, fun _ => ⟨?_, hparams⟩, fun h => ?_, fun h => ?_, fun _ _ => ⟨hroom, hlength⟩, ?_,
        ?_⟩
    case refine_3 => change c.place + 1 < lengthOf c; omega
    case refine_6 => change (c.params ++ [v]).length ≤ 32; omega
    case refine_7 => change c.place + 1 ≤ 35; omega
    all_goals simp [coverByte, hp] at h

theorem frameLaw_turn {c : FrameContext} (h : frameLaw c) (hp : c.parser = .turn) : frameLaw (takeTurn c) := by
  obtain ⟨_, _, _, _, _, hrl, hparams, _⟩ := h
  obtain ⟨hroom, hlength⟩ := hrl (by simp [hp]) (by simp [hp])
  unfold takeTurn
  split_ifs
  · exact frameLaw_passed hroom hlength hparams (by simp) (by simp [hp]) (by simp) (by simp [hp]) (by simp [hp])
  · exact frameLaw_passed hroom hlength hparams (by simp) (by simp) (by simp) (by simp) (by simp)

theorem frameLaw_reply {c : FrameContext} (h : frameLaw c) (hp : c.parser = .reply) : frameLaw (takeReply c) := by
  obtain ⟨_, _, _, _, hreply, hrl, hparams, _⟩ := h
  obtain ⟨hroom, hlength⟩ := hrl (by simp [hp]) (by simp [hp])
  have hlt := hreply hp
  unfold takeReply
  split_ifs with hlast
  · exact frameLaw_passed hroom hlength hparams (by simp) (by simp) (by simp) (by simp) (by simp)
  · refine frameLaw_passed hroom hlength hparams ?_ (by simp [hp]) (by simp [hp]) (fun _ => ?_) (by simp [hp])
    · dsimp only
      omega
    · change c.place + 1 < roomOf c + 4
      omega

theorem natByte_toNat {n : Nat} (h : n ≤ 255) : (natByte n).toNat = n := by
  rw [natByte, BitVec.toNat_ofNat]
  omega

theorem frameLaw_frameContext {code : Byte} {f : ReqFrame} (hr : f.room.toNat ≤ 32) (hl : f.params.length ≤ 32)
    (role : Role) : frameLaw (frameContext code f role) := by
  have hlen : lengthOf (frameContext code f role) ≤ 32 := by
    change (natByte f.params.length).toNat ≤ 32
    rwa [natByte_toNat (by omega)]
  exact frameLaw_passed hr hlen hl (Nat.zero_le _) (fun h => (nomatch h)) (fun _ => Nat.zero_le _)
    (fun h => (nomatch h)) (by simp [frameContext])

/-- Every change of the frame in passage keeps its law (R105, R107). -/
theorem FrameMove.keeps_frameLaw {address : Byte} {c c' : FrameContext} (h : frameLaw c)
    (hm : FrameMove address c c') : frameLaw c' := by
  obtain ⟨_, _, _, _, _, hrl, hparams, _⟩ := id h
  cases hm with
  | begun => exact frameLaw_begin c
  | ended => exact frameLaw_end hparams
  | abandoned code f => exact frameLaw_end hparams
  | header hp hv => exact frameLaw_header h hp hv
  | param hp v => exact frameLaw_param h hp v
  | checkHigh hp v | checked hp v =>
    obtain ⟨hroom, hlength⟩ := hrl (by simp [hp]) (by simp [hp])
    exact frameLaw_passed hroom hlength hparams (by simp [checkTaken]) (by simp [hp, checkTaken])
      (by simp [checkTaken]) (by simp [hp, checkTaken]) (by simp [hp, checkTaken])
  | turned hp => exact frameLaw_turn h hp
  | replied hp => exact frameLaw_reply h hp
  | held executed reply => exact h
  | framed hr hl => exact frameLaw_frameContext hr hl _

theorem frameLaw_reset : frameLaw FrameContext.reset := by simp [frameLaw, FrameContext.reset]

theorem move_keeps_frameLaw {s t : State} (h : frameLaw s.sp) (hm : Move s t) : frameLaw t.sp := by
  cases hm with
  | work hw =>
    cases hw with
    | beside hs => rwa [hs.sp]
    | frame hf => exact hf.keeps_frameLaw h
    | _ => exact h
  | line h => rwa [h.sp]
  | tracker => exact h
  | resetEnds => exact frameLaw_reset

/-! ### The law of the Executive -/

/-- The law of the Executive's own state (R120, R124, R126, R133). -/
structure ExecutiveLaw (m : Management) : Prop where
  address : m.address.toNat ≤ 239
  unaddressed : m.address = 0 → m.session = none
  tag : ∀ k, m.session = some k → k.tag ≠ 0
  closed : m.session = none → m.cache = none ∧ m.lastSequence = none
  inactivity : m.inactivity ≤ 4079
  node : m.node.valid = true

/-- The law of the role in the frame in passage, for a station address (R106, R108). -/
structure RoleLaw (address : Byte) (c : FrameContext) : Prop where
  unaddressed : address = 0 → c.role = .taker → c.code = some 0x02 ∧ c.destination.getD 0 = 0
  beforeClaim : c.parser = .header → c.place ≤ 2 → c.role = .none

theorem managementLaw_iff (s : State) : managementLaw s ↔ ExecutiveLaw s.me ∧ RoleLaw s.me.address s.sp :=
  ⟨fun ⟨ha, hs, hr, hb, ht, hc, hi, hn⟩ => ⟨⟨ha, hs, ht, hc, hi, hn⟩, ⟨hr, hb⟩⟩,
   fun ⟨⟨ha, hs, ht, hc, hi, hn⟩, ⟨hr, hb⟩⟩ => ⟨ha, hs, hr, hb, ht, hc, hi, hn⟩⟩

/-- At address 0 the part takes only an ASSIGN to destination 0 (R108). -/
theorem decideRole_unaddressed {destination code claim : Byte} (h : decideRole destination code claim 0 = .taker) :
    destination = 0 ∧ code = 0x02 := by
  unfold decideRole at h
  split_ifs at h with h1 h2 h3 h4
  · simp at h2
  · exact ⟨h4.1, h4.2.1⟩

theorem some_of_getD_eq {x : Option Byte} {v : Byte} (h : x.getD 0 = v) (hv : v ≠ 0) : x = some v := by
  cases x with
  | none => exact absurd h.symm hv
  | some w => exact congrArg some h

theorem RoleLaw.header {address v : Byte} {c : FrameContext} (h : RoleLaw address c) (hp : c.parser = .header) :
    RoleLaw address (headerContext address v c) := by
  obtain ⟨hu, hb⟩ := h
  unfold headerContext
  rcases hk : c.place with _ | _ | _ | _ | _ | _ | _ | n
  case zero | succ.zero =>
    have hrole : c.role = .none := hb hp (by omega)
    exact ⟨fun _ hr => by simp [coverByte, hrole] at hr, fun _ _ => hrole⟩
  case succ.succ.zero =>
    refine ⟨fun ha hr => ?_, fun _ hle => by simp at hle⟩
    subst ha
    obtain ⟨hd, hc⟩ := decideRole_unaddressed hr
    exact ⟨some_of_getD_eq hc (by decide), hd⟩
  case succ.succ.succ.succ.succ.succ.succ =>
    refine ⟨hu, fun hpar => ?_⟩
    simp only [afterLength] at hpar
    split at hpar <;> cases hpar
  all_goals exact ⟨hu, fun _ hle => by simp [coverByte, hk] at hle⟩

theorem FrameMove.keeps_roleLaw {address : Byte} {c c' : FrameContext} (h : RoleLaw address c)
    (hm : FrameMove address c c') : RoleLaw address c' := by
  obtain ⟨hu, hb⟩ := id h
  cases hm with
  | begun | ended | abandoned => exact ⟨fun _ hr => (nomatch hr), fun _ _ => rfl⟩
  | header hp hv => exact h.header hp
  | param hp v =>
    unfold takeParam
    dsimp only
    split
    · exact ⟨hu, fun hpar => (nomatch hpar)⟩
    · exact ⟨hu, fun hpar => by simp [coverByte, hp] at hpar⟩
  | checkHigh hp v => exact ⟨hu, fun hpar => by simp [hp] at hpar⟩
  | checked hp v => exact ⟨hu, fun hpar => (nomatch hpar)⟩
  | turned hp =>
    unfold takeTurn
    split
    · exact ⟨hu, fun hpar => by simp [hp] at hpar⟩
    · exact ⟨hu, fun hpar => (nomatch hpar)⟩
  | replied hp =>
    unfold takeReply
    split
    · exact ⟨hu, fun hpar => (nomatch hpar)⟩
    · exact ⟨hu, fun hpar => by simp [hp] at hpar⟩
  | held executed reply => exact ⟨hu, hb⟩
  | framed hr hl =>
    refine ⟨fun ha hrole => ?_, fun hpar => (nomatch hpar)⟩
    subst ha
    obtain ⟨hd, hc⟩ := decideRole_unaddressed hrole
    exact ⟨congrArg some hc, hd⟩

theorem ExecutiveLaw.closedSession {m : Management} (h : ExecutiveLaw m) : ExecutiveLaw (closedSession m) :=
  ⟨h.address, fun _ => rfl, fun _ hk => (nomatch hk), fun _ => ⟨rfl, rfl⟩, Nat.zero_le _, h.node⟩

theorem nextTag_ne_zero (t : Byte) : nextTag t ≠ 0 := by
  unfold nextTag
  split_ifs with h
  · decide
  · intro h0
    exact h (by bv_omega)

theorem ExecutiveLaw.opened {m : Management} (h : ExecutiveLaw m) (ha : m.address ≠ 0) (k : Byte) :
    ExecutiveLaw (openedSession k m) where
  address := h.address
  unaddressed h0 := absurd h0 ha
  tag := by
    rintro _ ⟨rfl⟩
    exact nextTag_ne_zero _
  closed h0 := (nomatch h0)
  inactivity := Nat.zero_le _
  node := h.node

/-- The inactivity count stops below 16 times the timeout, and so below 4080 (R129). -/
theorem ExecutiveLaw.noticed {m : Management} (h : ExecutiveLaw m) : ExecutiveLaw (sessionNotice m).1 := by
  unfold sessionNotice
  split
  · exact h
  · rename_i k hk
    split_ifs with he
    · exact h.closedSession
    · refine ⟨h.address, h.unaddressed, h.tag, h.closed, ?_, h.node⟩
      have ht := m.node.sessionTimeout.isLt
      have : ¬(16 * m.node.sessionTimeout.toNat ≤ m.inactivity + 1) := by simpa [expiryDue, hk] using he
      dsimp only
      omega

/-- Every change of the Executive keeps its law, where an OPEN finds an address (R120, R124, R126, R129, R133). -/
theorem ExecutiveMove.keeps_law {c : FrameContext} {m m' : Management} (h : ExecutiveLaw m) (hr : RoleLaw m.address c)
    (hm : ExecutiveMove c m m') : ExecutiveLaw m' := by
  cases hm with
  | cause x => exact ⟨h.address, h.unaddressed, h.tag, h.closed, h.inactivity, h.node⟩
  | deferred => exact ⟨h.address, h.unaddressed, h.tag, h.closed, h.inactivity, h.node⟩
  | restarted =>
    obtain ⟨ha, hu, ht, hc, hi, hn⟩ := h.closedSession
    exact ⟨ha, hu, ht, hc, hi, hn⟩
  | closed => exact h.closedSession
  | noticed => exact h.noticed
  | touched r =>
    unfold touchSession
    split
    · exact ⟨h.address, h.unaddressed, h.tag, h.closed, Nat.zero_le _, h.node⟩
    · exact h
  | assigned h1 h239 =>
    refine ⟨h239, fun h0 => ?_, h.tag, h.closed, h.inactivity, h.node⟩
    cases h0
    simp at h1
  | opened hrole hcode k =>
    refine h.opened (fun h0 => ?_) k
    have := (hr.unaddressed h0 hrole).1
    rw [hcode] at this
    simp at this
  | settings hn => exact ⟨h.address, h.unaddressed, h.tag, h.closed, h.inactivity, hn⟩
  | cached hs q rep =>
    refine ⟨h.address, h.unaddressed, h.tag, fun h0 => ?_, h.inactivity, h.node⟩
    rw [show m.session = none from h0] at hs
    simp at hs

/-- A change of the Executive leaves the address, or sets one that is not 0 (R131). -/
theorem ExecutiveMove.address {c : FrameContext} {m m' : Management} (hm : ExecutiveMove c m m') :
    m'.address = m.address ∨ m'.address ≠ 0 := by
  cases hm with
  | assigned h1 h239 =>
    refine .inr fun h0 => ?_
    cases h0
    simp at h1
  | noticed =>
    unfold sessionNotice
    split
    · exact .inl rfl
    · split <;> exact .inl rfl
  | touched r =>
    unfold touchSession
    split <;> exact .inl rfl
  | _ => exact .inl rfl

theorem managementLaw_reset (cause : RestartCause) :
    ExecutiveLaw (Management.reset cause) ∧ RoleLaw (Management.reset cause).address FrameContext.reset :=
  ⟨⟨Nat.zero_le _, fun _ => rfl, fun _ hk => (nomatch hk), fun _ => ⟨rfl, rfl⟩, Nat.zero_le _,
    (by decide : NodeSettings.default.valid = true)⟩, ⟨fun _ hr => (nomatch hr), fun _ _ => rfl⟩⟩

theorem move_keeps_managementLaw {s t : State} (h : managementLaw s) (hm : Move s t) : managementLaw t := by
  rw [managementLaw_iff] at h ⊢
  obtain ⟨he, hr⟩ := h
  cases hm with
  | work hw =>
    cases hw with
    | beside hs => rw [hs.me, hs.sp]; exact ⟨he, hr⟩
    | frame hf => exact ⟨he, hf.keeps_roleLaw hr⟩
    | executive hx =>
      refine ⟨hx.keeps_law he hr, fun h0 => ?_, hr.beforeClaim⟩
      rcases hx.address with hsame | hne
      · exact hr.unaddressed (hsame ▸ h0)
      · exact absurd h0 hne
    | _ => exact ⟨he, hr⟩
  | line h => rw [h.me, h.sp]; exact ⟨he, hr⟩
  | tracker => exact ⟨he, hr⟩
  | resetEnds => exact managementLaw_reset _

/-- Settles O58: every change of the Executive keeps its law beside that of the role, every change of the frame in
passage keeps its own, and a step is a run of changes. -/
theorem managementLawIsKept : Obligations.ManagementLawIsKept :=
  ⟨fun _ _ h hstep => step_keeps (P := managementLaw) (fun _ _ => move_keeps_managementLaw) h hstep,
   fun _ _ h hstep => step_keeps (P := fun s => frameLaw s.sp) (fun _ _ => move_keeps_frameLaw) h hstep⟩

/-- Settles O4: the laws of the blocks at their hard-reset values. -/
theorem resetMeetsTheLaws : Obligations.ResetMeetsTheLaws := by
  refine ⟨eventLaw_restarted _ _ _, mapLaw_reset, (managementLaw_iff _).mpr (managementLaw_reset _), trackerLaw_reset,
    frameLaw_reset, patternLaw_reset, fun b => ?_⟩
  have hreset : State.reset.bu[b] = Branch.disabledWith BranchConfig.default := Vector.getElem_replicate ..
  rw [hreset]
  exact branchLaw_disabledWith (by decide) (by decide)

end Sys2Proof.Machine
end

section
/-!
The queue of commands, the resets, the rows of the lines between characters, and the post to the Event Queue (R2, R12,
R88, R89, R137, R141, R172).
-/

namespace Sys2Proof.Machine

/-! ### The queue and the resets -/

/-- Settles O1: the three lines of `step`, `decodeTableWord` and `withFetchWord`. -/
theorem stepTakesTheFront : Obligations.StepTakesTheFront := by
  refine ⟨fun _ _ _ => rfl, fun s h => ?_, fun _ _ _ => ⟨rfl, rfl⟩⟩
  unfold step
  rw [h]

theorem exec_hardReset_running {s : State} (h : s.inReset = false) (source : ResetSource) :
    exec (.hardReset source) s = .next (beginReset (causeOf source) s) :=
  congrArg Host.Outcome.next (if_neg (by simp [h]))

theorem exec_hardReset_lasting {s : State} (h : s.inReset = true) (source : ResetSource) :
    exec (.hardReset source) s = .next (match source with
      | .power => onMe (fun m => { m with restartCause := .power }) s
      | .pin => s) :=
  congrArg Host.Outcome.next (if_pos h)

/-- Settles O2: the two branches of a reset's beginning, by whether one lasts already. -/
theorem hardResetBegins : Obligations.HardResetBegins := by
  refine ⟨fun source s h => ?_, fun s h => ⟨exec_hardReset_lasting h .power, exec_hardReset_lasting h .pin⟩⟩
  rw [exec_hardReset_running h]
  cases source <;> rfl

theorem exec_hardResetEnd_running {s : State} (h : s.inReset = false) : exec .hardResetEnd s = .next s :=
  congrArg Host.Outcome.next (if_neg (by simp [h]))

theorem exec_hardResetEnd_lasting {s : State} (h : s.inReset = true) : exec .hardResetEnd s = .next (endReset s) :=
  congrArg Host.Outcome.next (if_pos h)

/-- Settles O3: the values of `State.afterReset`, field by field. -/
theorem hardResetEnds : Obligations.HardResetEnds := by
  refine fun s => ⟨exec_hardResetEnd_running, fun h => ⟨endReset s, exec_hardResetEnd_lasting h, rfl, rfl, rfl, rfl,
      rfl,
    rfl, rfl, bootstrap_entry, rfl, fun b => ?branches, rfl, rfl, ?event, rfl, fun i => ⟨?live, ?values⟩, rfl, rfl,
        rfl⟩⟩
  case branches => exact Vector.getElem_replicate ..
  case event => cases hc : s.me.restartCause <;> simp [endReset, State.afterReset, EventQueue.restarted,
      RestartCause.code, hc]
  case live => exact Vector.getElem_replicate ..
  case values => exact Vector.getElem_replicate ..

/-! ### The lines between characters -/

theorem exec_trunkLineHigh (s : State) : exec .trunkLineHigh s = .next
    (if s.inReset = false ∧ s.trunk.wait = .lineHigh then s.withTrunk
        { wait := .fall, out := s.trunk.out } else s) := rfl

/-- Settles O9: each row of a line, in the state its rule names. -/
theorem linesMoveBetweenCharacters : Obligations.LinesMoveBetweenCharacters := by
  refine ⟨fun _ => rfl, exec_trunkLineHigh, ?_⟩
  rintro b s l rfl
  exact ⟨rfl, rfl, rfl⟩

end Sys2Proof.Machine
end

section
/-! The characters of the lines as they are formed and judged, and the post to the Event Queue (R1 to R4, R84, R85, R89,
R141). -/

namespace Sys2Proof.Machine

/-! ### Parity -/

theorem foldl_xor_map (f : Nat → Bool) (l : List Nat) (x : Bool) :
    (l.map f).foldl xor x = decide ((l.countP f + x.toNat) % 2 = 1) := by
  induction l generalizing x with
  | nil => cases x <;> rfl
  | cons k l ih =>
    rw [List.map_cons, List.foldl_cons, ih, List.countP_cons]
    cases f k <;> cases x <;> (simp; try omega)

/-- The ones of a character are odd where their number is. -/
theorem oddOnes_eq (data : Byte) (x y : Bool) :
    oddOnes data x y = decide (((List.range 8).countP data.getLsbD + x.toNat + y.toNat) % 2 = 1) := by
  rw [oddOnes, foldl_xor_map]
  cases x <;> cases y <;> simp [Nat.add_assoc]

/-- One more where a number is even makes it odd. -/
theorem odd_add_not (n : Nat) : (n + (!decide (n % 2 = 1)).toNat) % 2 = 1 := by
  by_cases h : n % 2 = 1
  · simp [h]
  · simp only [h, decide_false, Bool.not_false, Bool.toNat_true]
    omega

/-- One more where a number is odd makes it even. -/
theorem even_add_odd (n : Nat) : (n + (decide (n % 2 = 1)).toNat) % 2 = 0 := by
  by_cases h : n % 2 = 1
  · simp only [h, decide_true, Bool.toNat_true]
    omega
  · simp only [h, decide_false, Bool.toNat_false]
    omega

/-- The parity bit the part sends makes the ones odd (R1). -/
theorem formTrunk_odd (c : OutChar) :
    ((List.range 8).countP c.data.getLsbD + c.mark.toNat + (formTrunk c).parity.toNat) % 2 = 1 := by
  have hparity : (formTrunk c).parity = !(oddOnes c.data c.mark false) := rfl
  rw [hparity, oddOnes_eq]
  exact odd_add_not _

theorem classify_eq_damaged_iff (t : TrunkBits) :
    classify t = .damaged ↔ (t.stop && oddOnes t.data t.mark t.parity) = false := by
  unfold classify
  split_ifs <;> simp_all

theorem classify_plain {t : TrunkBits} (h : classify t ≠ .damaged) (hm : t.mark = false) : classify t
    = .plain t.data := by
  have hgood : (t.stop && oddOnes t.data t.mark t.parity) = true := by
    simpa using mt (classify_eq_damaged_iff t).mpr h
  rw [classify, if_pos hgood, hm, if_neg (by decide)]

theorem classify_marked {t : TrunkBits} (h : classify t ≠ .damaged) (hm : t.mark = true) :
    classify t = if t.data = 0x3C then .sync else if t.data = 0x3D then .syncA else if t.data = 0x51 then .fs
      else if t.data = 0x5E then .fe else if t.data = 0x00 then .sidle else .stray t.data := by
  have hgood : (t.stop && oddOnes t.data t.mark t.parity) = true := by
    simpa using mt (classify_eq_damaged_iff t).mpr h
  rw [classify, if_pos hgood, if_pos hm]

/-- Settles O5: the parity that is sent, the judgement by stop bit and parity, and the table of marked characters. -/
theorem trunkCharactersAreFormedAndRead : Obligations.TrunkCharactersAreFormedAndRead := by
  refine ⟨fun c => ⟨rfl, rfl, rfl, by simp [trunkLevels], formTrunk_odd c⟩, fun t => ?damaged, fun t h => ?classified⟩
  case damaged =>
    rw [classify_eq_damaged_iff, Bool.and_eq_false_iff, oddOnes_eq, decide_eq_false_iff_not, Nat.mod_two_not_eq_one]
  case classified =>
    refine ⟨classify_plain h, fun hm => ?_⟩
    rw [classify_marked h hm]
    refine ⟨?_, ?_, ?_, ?_, ?_, ?_⟩ <;> intros <;> simp_all

/-! ### Branch characters -/

/-- The data bits that a record gives hold as many ones as its branch data has. -/
theorem countP_branchData (c : BranchConfig) (v : Byte) :
    (List.range 8).countP (branchData c v).getLsbD = (List.range (if c.sevenBits then 7 else 8)).countP v.getLsbD := by
  unfold branchData
  cases c.sevenBits with
  | false => rfl
  | true =>
    have h7 : ((v &&& 0x7F) : Byte).getLsbD 7 = false := by simp
    have hlow : ∀ k < 7, (v &&& 127#8).getLsbD k = v.getLsbD k := by
      intro k hk
      interval_cases k <;> simp
    rw [if_pos rfl, if_pos rfl, List.range_succ, List.countP_append, List.countP_singleton, h7]
    simpa using List.countP_congr fun k hk => by rw [hlow k (List.mem_range.mp hk)]

/-- The judgement of a complete branch character, by the number of ones that its record sees (R89). -/
theorem branchValue_stop {c : BranchConfig} {v : Byte} {ones : Nat}
    (h : ones = (List.range (if c.sevenBits then 7 else 8)).countP v.getLsbD) (p : Bool) :
    branchValue c { data := v, parity := p, stop := true }
      = if c.parity = .none ∨ (c.parity = .even ∧ (ones + p.toNat) % 2 = 0) ∨ (c.parity = .odd
          ∧ (ones + p.toNat) % 2 = 1)
        then some (branchData c v) else none := by
  rw [← countP_branchData] at h
  subst h
  unfold branchValue branchParityOk
  cases c.parity <;> simp [oddOnes_eq]

/-- The parity level of a character as sent (R85). -/
theorem branchLevels_parity {c : BranchConfig} (h : c.parity ≠ .none) (v : Byte) :
    (branchLevels c v).getD (if c.sevenBits then 8 else 9) false
      = xor (c.parity = .odd) (oddOnes (branchData c v) false false) := by
  cases hp : c.parity with
  | none => exact absurd hp h
  | even => cases hs : c.sevenBits <;> simp [branchLevels, branchData, List.range_succ, hp, hs]
  | odd => cases hs : c.sevenBits <;> simp [branchLevels, branchData, List.range_succ, hp, hs]

/-- Settles O6: the levels of a character as sent, and its judgement under the same record. -/
theorem branchFormatAgrees : Obligations.BranchFormatAgrees := by
  intro c v ones hones
  refine ⟨?good, ?length, rfl, ?last, ?data, branchValue_stop hones, fun p => ?noStop⟩
  case noStop => simp [branchValue]
  case good =>
    rw [branchValue_stop hones, if_pos]
    · rfl
    · by_cases hnone : c.parity = .none
      · exact .inl hnone
      · have hsum : (List.range 8).countP (branchData c v).getLsbD = ones := by rw [countP_branchData, hones]
        rw [branchLevels_parity hnone, oddOnes_eq, hsum]
        cases hp : c.parity with
        | none => exact absurd hp hnone
        | even => exact .inr (.inl ⟨rfl, by simpa using even_add_odd ones⟩)
        | odd => exact .inr (.inr ⟨rfl, by simpa using odd_add_not ones⟩)
  case length =>
    unfold branchLevels
    rcases c with ⟨_ | _, _ | _ | _, _ | _, _, _, _⟩ <;> simp
  case last =>
    unfold branchLevels
    cases c.twoStops <;> simp [List.getLast?_cons, List.getLast?_append]
  case data =>
    intro k hk
    unfold branchLevels
    rw [List.getElem?_cons_succ, List.append_assoc, List.getElem?_append_left (by simpa using hk)]
    simp [hk]

/-! ### The post to the Event Queue -/

theorem advanceNewest_append (older : List EventRecord) {e : EventRecord} (h : e.kind = .overflow) :
    advanceNewest (older ++ [e]) = older ++ [{ e with detail := advanceLost e.detail }] := by
  induction older with
  | nil => simp [advanceNewest, h]
  | cons x xs ih =>
    rw [List.cons_append, List.cons_append, ← ih]
    cases hxs : xs ++ [e] with
    | nil => simp at hxs
    | cons y ys => rfl

/-- Settles O30: the three branches of `postTo`, by the number of entries held. -/
theorem eventPosted : Obligations.EventPosted := by
  intro q cycle p
  refine ⟨fun h => if_pos h, fun h => ?full, fun older e lost hq hlen hk hd => ?overflowed⟩
  case full => simp [postTo, h]
  case overflowed =>
    have h16 : q.events.length = 16 := by simp [hq, hlen]
    rw [postTo, if_neg (by omega), if_neg (by omega), hq, advanceNewest_append older hk, hd]
    have hlost : advanceLost [lost] = [if lost = 0xFF then 0xFF else lost + 1] := by
      change [if lost = 0xFF then lost else lost + 1] = _
      split_ifs with hl
      · rw [hl]
      · rfl
    rw [hlost]

end Sys2Proof.Machine
end

section
/-!
Characters that complete on a branch line, and those that a part which is not LOCKED forwards (R25, R88 to R93).
-/

namespace Sys2Proof.Machine

/-! ### Changes that commute with a branch's -/

theorem withBranch_withBranch (s : State) (b : BranchNo) (x y : Branch) :
    (s.withBranch b x).withBranch b y = s.withBranch b y := by
  simp [State.withBranch]

@[simp] theorem withBranch_self_bu (s : State) (b : BranchNo) (x : Branch) : (s.withBranch b x).bu[b] = x := by simp

theorem countAll_withBranch (is : List CounterIx) (b : BranchNo) (x : Branch) (s : State) :
    countAll is (s.withBranch b x) = (countAll is s).withBranch b x := by
  induction is generalizing s with
  | nil => rfl
  | cons i is ih => exact ih (count i s)

theorem postList_withBranch (ps : List Post) (b : BranchNo) (x : Branch) (s : State) :
    postList ps (s.withBranch b x) = (postList ps s).withBranch b x := by
  induction ps generalizing s with
  | nil => rfl
  | cons p ps ih => exact ih (post p s)

/-! ### A branch character completes, or has been sent -/

/-- A complete character, by the receiver's judgement of it (R89 to R93). -/
theorem branchComplete_eq {b : BranchNo} {ch : BranchBits} {s : State} {x : Branch} {j : Received}
    (hx : x = { s.bu[b] with line := if ch.stop then .waitStart else .waitHigh })
    (hj : x.judge (branchValue x.config ch) = j) :
    branchComplete b ch s = (postList (j.posts b x) (countAll (j.counts b) s)).withBranch b (j.apply x) := by
  have hline : onBranch b (fun y => { y with line := if ch.stop then .waitStart else .waitHigh }) s
      = s.withBranch b x := by
    rw [hx]
    rfl
  have hconfig : s.bu[b].config = x.config := by rw [hx]
  unfold branchComplete receiveJudged
  rw [hline, hconfig]
  simp only [withBranch_self_bu, hj, countAll_withBranch, postList_withBranch]
  unfold onBranch
  rw [withBranch_withBranch, withBranch_self_bu]

theorem exec_branchCharacterComplete {b : BranchNo} {ch : BranchBits} {s : State} {x : Branch} {j : Received}
    (hr : s.inReset = false) (he : s.bu[b].enabled = true) (hl : s.bu[b].line = .receiving)
    (hx : x = { s.bu[b] with line := if ch.stop then .waitStart else .waitHigh })
    (hj : x.judge (branchValue x.config ch) = j) :
    exec (.branchCharacterComplete b ch) s
      = .next ((postList (j.posts b x) (countAll (j.counts b) s)).withBranch b (j.apply x)) := by
  rw [← branchComplete_eq hx hj]
  exact congrArg Host.Outcome.next (if_pos ⟨hr, he, hl⟩)

theorem judge_pushed {x : Branch} {v : Byte} (hrun : x.receiver = .run) (hroom : x.insertQueue.length < 32) :
    x.judge (some v) = .pushed v := by
  cases x
  cases hrun
  exact if_neg fun hfull => Nat.not_le.mpr hroom (of_decide_eq_true hfull)

theorem judge_discarded {x : Branch} {v : Byte} (h : x.receiver = .hold ∨ 32 ≤ x.insertQueue.length) :
    x.judge (some v) = .discarded := by
  obtain ⟨_, _, _, _, _, receiver, _, _, _, _⟩ := x
  cases receiver with
  | hold => rfl
  | run => exact if_pos (decide_eq_true (h.resolve_left nofun))

theorem judge_counted {x : Branch} (h : x.receiver = .hold ∨ x.config.policy = .discard) : x.judge none = .counted := by
  obtain ⟨config, _, _, _, _, receiver, _, _, _, _⟩ := x
  cases receiver with
  | hold => rfl
  | run =>
    cases config
    cases h.resolve_left nofun
    rfl

theorem judge_held {x : Branch} (hr : x.receiver = .run) (hp : x.config.policy = .hold) : x.judge none = .held := by
  obtain ⟨config, _, _, _, _, _, _, _, _, _⟩ := x
  cases config
  cases hr
  cases hp
  rfl

theorem popDrop_nil {x : Branch} (h : x.dropQueue = []) : popDrop x = { x with sending := none } := by
  cases x
  cases h
  rfl

theorem popDrop_cons {x : Branch} {v : Byte} {rest : List Byte} (h : x.dropQueue = v :: rest) :
    popDrop x = { x with sending := some v, dropQueue := rest, dropReported := x.dropReported && !rest.isEmpty } := by
  cases x
  cases h
  rfl

theorem exec_branchCharacterSent {b : BranchNo} {s : State} (hr : s.inReset = false) (he : s.bu[b].enabled = true)
    (hs : s.bu[b].sending.isSome = true) :
    exec (.branchCharacterSent b) s = .next (s.withBranch b (popDrop s.bu[b])) :=
  congrArg Host.Outcome.next (if_pos ⟨hr, he, hs⟩)

/-- Settles O10: the four judgements of a complete character, and the two of a transmitter that has sent one. -/
theorem branchCharactersComeAndGo : Obligations.BranchCharactersComeAndGo := by
  refine ⟨fun b ch s x hr he hl hx => ⟨?pushed, ?discarded, ?counted, ?held⟩, fun b s hr he hs => ⟨fun hq => ?idle,
      ?next⟩⟩
  case pushed =>
    intro v hv hrun hroom
    exact exec_branchCharacterComplete hr he hl hx (hv ▸ judge_pushed hrun hroom)
  case discarded =>
    intro v hv h
    rw [exec_branchCharacterComplete hr he hl hx (hv ▸ judge_discarded h)]
    cases hrep : x.insertReported with
    | true =>
      have hsame : Received.discarded.apply x = x := by cases x; simp_all [Received.apply]
      rw [hsame]
      simp only [Received.posts, hrep, if_true]
      rfl
    | false =>
      simp only [Received.posts, hrep, Bool.false_eq_true, if_false]
      rfl
  case counted =>
    intro hv h
    exact exec_branchCharacterComplete hr he hl hx (hv ▸ judge_counted h)
  case held =>
    intro hv hrun hpol
    exact exec_branchCharacterComplete hr he hl hx (hv ▸ judge_held hrun hpol)
  case idle => rw [exec_branchCharacterSent hr he hs, popDrop_nil hq]
  case next =>
    intro v rest hq
    rw [exec_branchCharacterSent hr he hs, popDrop_cons hq]

end Sys2Proof.Machine
end

section
/-!
The ten rows that name a trunk character by what comes about at it: for each, its test in the words of the statements
(R17, R20, R26, R69, R71, R129, R135, R155, R157, R167).
-/

namespace Sys2Proof.Machine

/-! ### The tests of the rows -/

theorem isSync_iff (ch : TrunkBits) : (classify ch).isSync = true ↔ isSyncCode ch := by
  unfold isSyncCode
  cases classify ch <;> simp [TrunkChar.isSync]

theorem gainsLock_eq_some_iff (n : Byte) (ch : TrunkBits) (s : State) :
    gainsLock s.ct s.me.node.confirmCount (classify ch) = some n ↔ GainsLock n ch s := by
  unfold gainsLock GainsLock
  constructor
  · intro h
    split at h
    · rename_i v hlock hpos hch
      split_ifs at h with hif
      cases h
      exact ⟨hlock, hpos, hch, hif.1, hif.2⟩
    · cases h
  · rintro ⟨hlock, hpos, hch, href, hk⟩
    simp [hlock, hpos, hch, href, hk]

theorem gainsLock_eq_none_iff (ch : TrunkBits) (s : State) :
    gainsLock s.ct s.me.node.confirmCount (classify ch) = none ↔ ∀ n, ¬ GainsLock n ch s := by
  rw [Option.eq_none_iff_forall_ne_some]
  exact forall_congr' fun n => not_congr (gainsLock_eq_some_iff n ch s)

/-- The number adopted in LOCKED is the one received, where the part does not coast and one came (R21). -/
theorem adopted_received {c : CycleTracker} (hc : c.coasting = false) (v : Byte) :
    adopted c (.plain v) = (v, decide (v ≠ expectedNumber c)) := by simp [adopted, hc]

/-- Otherwise it is the expected one (R21, R22). -/
theorem adopted_expected {c : CycleTracker} {ch : TrunkChar} (h : c.coasting = true ∨ ∀ v, ch ≠ .plain v) :
    adopted c ch = (expectedNumber c, false) := by
  unfold adopted
  split
  · rename_i v hc
    rcases h with h | h
    · simp [hc] at h
    · exact absurd rfl (h v)
  · rfl

theorem adopted_cases (c : CycleTracker) (ch : TrunkChar) :
    (c.coasting = false ∧ ∃ v, ch = .plain v) ∨ (c.coasting = true ∨ ∀ v, ch ≠ .plain v) := by
  cases c.coasting with
  | true => exact .inr (.inl rfl)
  | false =>
    by_cases h : ∃ v, ch = .plain v
    · exact .inl ⟨rfl, h⟩
    · exact .inr (.inr fun v hv => h ⟨v, hv⟩)

theorem not_gainsLock_of_locked {s : State} (h : s.ct.lock = .locked) (n : Byte) (ch : TrunkBits) :
    ¬ GainsLock n ch s :=
  fun hg => by simpa [h] using hg.1

/-- The header notice of a character, in the words of the statements (R23). -/
theorem noticeAt_eq_some_iff (n : Byte) (jump : Bool) (ch : TrunkBits) (s : State) :
    noticeAt (classify ch) s = some (n, jump) ↔ GivesNotice n (jump = true) ch s := by
  unfold noticeAt
  split
  · rename_i hlock hpos
    have hno := not_gainsLock_of_locked hlock n ch
    rcases adopted_cases s.ct (classify ch) with ⟨hc, v, hv⟩ | hexp
    · rw [hv, adopted_received hc]
      constructor
      · intro h
        cases h
        exact .inr (.inl ⟨hlock, hpos, hc, hv, decide_eq_true_iff⟩)
      · rintro (⟨hg, _⟩ | ⟨_, _, _, hn, hj⟩ | ⟨_, _, hexp, _⟩)
        · exact absurd hg hno
        · cases hv.symm.trans hn
          have hjump : decide (n ≠ expectedNumber s.ct) = jump :=
            Bool.eq_iff_iff.mpr (decide_eq_true_iff.trans hj.symm)
          rw [hjump]
        · rcases hexp with hco | hnp
          · simp [hc] at hco
          · exact absurd hv (hnp v)
    · rw [adopted_expected hexp]
      constructor
      · intro h
        cases h
        exact .inr (.inr ⟨hlock, hpos, hexp, rfl, by simp⟩)
      · rintro (⟨hg, _⟩ | ⟨_, _, hc, hn, _⟩ | ⟨_, _, _, hn, hj⟩)
        · exact absurd hg hno
        · rcases hexp with hco | hnp
          · simp [hc] at hco
          · exact absurd hn (hnp n)
        · rw [hn, Bool.eq_false_iff.mpr hj]
          rfl
  · rename_i hlock hpos
    rw [Option.map_eq_some_iff]
    constructor
    · rintro ⟨m, hm, h⟩
      cases h
      exact .inl ⟨(gainsLock_eq_some_iff n ch s).mp hm, by simp⟩
    · rintro (⟨hg, hj⟩ | ⟨hl, _⟩ | ⟨hl, _⟩)
      · exact ⟨n, (gainsLock_eq_some_iff n ch s).mpr hg, by rw [Bool.eq_false_iff.mpr hj]⟩
      · simp [hlock] at hl
      · simp [hlock] at hl
  · rename_i hlocked hconfirm
    constructor
    · intro h
      cases h
    · rintro (⟨⟨hl, hp, _⟩, _⟩ | ⟨hl, hp, _⟩ | ⟨hl, hp, _⟩)
      · exact absurd hp (hconfirm hl)
      · exact absurd hp (hlocked hl)
      · exact absurd hp (hlocked hl)

theorem isNotice_iff (test : Byte → Bool → Bool) (ch : TrunkBits) (s : State) :
    isNotice test ch s = true
      ↔ trunkReady s ∧ ∃ n jump, GivesNotice n (jump = true) ch s ∧ test n jump = true := by
  unfold isNotice
  rw [Bool.and_eq_true, decide_eq_true_eq]
  refine and_congr_right fun _ => ?_
  cases h : noticeAt (classify ch) s with
  | none =>
    simp only [Option.elim_none, Bool.false_eq_true, false_iff, not_exists, not_and]
    intro n jump hg
    simp [(noticeAt_eq_some_iff n jump ch s).mpr hg] at h
  | some p =>
    constructor
    · exact fun ht => ⟨p.1, p.2, (noticeAt_eq_some_iff p.1 p.2 ch s).mp h, ht⟩
    · rintro ⟨n, jump, hg, ht⟩
      cases h.symm.trans ((noticeAt_eq_some_iff n jump ch s).mpr hg)
      exact ht

/-- A test that holds of one number only, and of no jump. -/
theorem isNotice_iff_number {test : Byte → Bool → Bool} {P : Prop} {c : Byte}
    (htest : ∀ n jump, test n jump = true ↔ P ∧ jump = false ∧ n = c) (ch : TrunkBits) (s : State) :
    isNotice test ch s = true ↔ trunkReady s ∧ P ∧ GivesNotice c False ch s := by
  rw [isNotice_iff]
  refine and_congr_right fun _ => ⟨?_, ?_⟩
  · rintro ⟨n, jump, hg, ht⟩
    obtain ⟨hp, rfl, rfl⟩ := (htest n jump).mp ht
    exact ⟨hp, by simpa using hg⟩
  · rintro ⟨hp, hg⟩
    exact ⟨c, false, by simpa using hg, (htest c false).mpr ⟨hp, rfl, rfl⟩⟩

theorem isFallbackAction_iff (ch : TrunkBits) (s : State) :
    isFallbackAction ch s = true ↔ trunkReady s ∧ s.ct.lock ≠ .locked ∧ (∀ n, ¬ GainsLock n ch s)
      ∧ s.me.node.fallbackThreshold ≠ 0 ∧ 256 * s.me.node.fallbackThreshold.toNat ≤ s.ct.fallbackCount + 1 := by
  unfold isFallbackAction fallbackReached
  rw [Bool.and_eq_true, Bool.and_eq_true, decide_eq_true_eq, decide_eq_true_eq, Option.isNone_iff_eq_none,
    gainsLock_eq_none_iff]
  tauto

theorem isLockGained_iff (ch : TrunkBits) (s : State) :
    isLockGained ch s = true ↔ trunkReady s ∧ ∃ n, GainsLock n ch s := by
  unfold isLockGained
  rw [Bool.and_eq_true, decide_eq_true_eq, Option.isSome_iff_exists]
  exact and_congr_right fun _ => exists_congr fun n => gainsLock_eq_some_iff n ch s

theorem isLockLost_iff (ch : TrunkBits) (s : State) : isLockLost ch s = true ↔ trunkReady s ∧ LosesLock ch s := by
  unfold isLockLost missLosesLock
  rw [Bool.and_eq_true, Bool.and_eq_true, decide_eq_true_eq, decide_eq_true_eq, Bool.not_eq_true', Bool.eq_false_iff,
      Ne,
    isSync_iff]
  tauto

theorem isSessionExpired_iff (ch : TrunkBits) (s : State) :
    isSessionExpired ch s = true ↔ trunkReady s ∧ (∃ n jump, GivesNotice n jump ch s) ∧ s.me.session.isSome = true
      ∧ 16 * s.me.node.sessionTimeout.toNat ≤ s.me.inactivity + 1 := by
  unfold isSessionExpired
  rw [isNotice_iff]
  refine and_congr_right fun _ => ⟨?_, ?_⟩
  · rintro ⟨n, jump, hg, ht⟩
    simp only [expiryDue, Bool.and_eq_true, decide_eq_true_eq] at ht
    exact ⟨⟨n, _, hg⟩, ht.1, ht.2⟩
  · rintro ⟨⟨n, jump, hg⟩, hs, ht⟩
    by_cases hj : jump
    · exact ⟨n, true, by simpa [hj] using hg, by simp [expiryDue, hs, ht]⟩
    · exact ⟨n, false, by simpa [hj] using hg, by simp [expiryDue, hs, ht]⟩

theorem isSwitchFire_iff (ch : TrunkBits) (s : State) : isSwitchFire ch s = true
    ↔ trunkReady s ∧ s.mu.switch.state = .armed ∧ GivesNotice s.mu.switch.cycle False ch s :=
  isNotice_iff_number (fun n jump => by simp [fireDue, and_assoc]) ch s

theorem isGuardEnd_iff (ch : TrunkBits) (s : State) : isGuardEnd ch s = true
    ↔ trunkReady s ∧ s.mu.switch.state = .guarding ∧ GivesNotice s.mu.switch.guardEnd False ch s :=
  isNotice_iff_number (fun n jump => by simp [guardEndDue, and_assoc]) ch s

theorem isDeferredCapture_iff (ch : TrunkBits) (s : State) : isDeferredCapture ch s = true
    ↔ trunkReady s ∧ s.cb.deferred.armed = true ∧ GivesNotice s.cb.deferred.cycle False ch s :=
  isNotice_iff_number (fun n jump => by simp [captureDue, and_assoc]) ch s

theorem judgedAt_eq_some_iff (p : PatternUnit) (ch : TrunkBits) (s : State) :
    judgedAt ch s = some p ↔ IsJudged p ch s := by
  unfold judgedAt IsJudged
  constructor
  · intro h
    split_ifs at h with hready
    split at h
    · rename_i i r hpos hchk hreg
      split_ifs at h with he
      cases h
      exact ⟨i, r, ⟨hready.1, hready.2, hpos, he⟩, hchk, hreg, rfl⟩
    · cases h
  · rintro ⟨i, r, ⟨hready, hlock, hpos, he⟩, hchk, hreg, rfl⟩
    rw [if_pos ⟨hready, hlock⟩, hpos, hchk, hreg]
    simp [he]

/-- A judgement is made only where the receiver takes a character (R2). -/
theorem elim_judgedAt_iff (test : PatternUnit → Bool) (ch : TrunkBits) (s : State) :
    (judgedAt ch s).elim false test = true ↔ trunkReady s ∧ ∃ p, IsJudged p ch s ∧ test p = true := by
  cases h : judgedAt ch s with
  | none =>
    simp only [Option.elim_none, Bool.false_eq_true, false_iff, not_and, not_exists]
    intro _ p hp
    simp [(judgedAt_eq_some_iff p ch s).mpr hp] at h
  | some p =>
    have hp := (judgedAt_eq_some_iff p ch s).mp h
    constructor
    · exact fun ht => ⟨hp.elim fun _ ⟨_, hat, _⟩ => hat.ready, p, hp, ht⟩
    · rintro ⟨_, q, hq, ht⟩
      cases h.symm.trans ((judgedAt_eq_some_iff q ch s).mpr hq)
      exact ht

theorem isCheckerResync_iff (ch : TrunkBits) (s : State) : isCheckerResync ch s = true
    ↔ trunkReady s ∧ ∃ p, IsJudged p ch s ∧ windowMismatches p.window = s.pu.config.threshold := by
  unfold isCheckerResync
  rw [elim_judgedAt_iff]
  refine and_congr_right fun _ => exists_congr fun p => and_congr_right ?_
  rintro ⟨i, r, _, _, _, rfl⟩
  exact decide_eq_true_iff

theorem isTestDone_iff (ch : TrunkBits) (s : State) : isTestDone ch s = true
    ↔ trunkReady s ∧ ∃ p, IsJudged p ch s ∧ s.pu.run = .running ∧ s.pu.mode = .timed
        ∧ p.checked = s.pu.runLength.elements := by
  unfold isTestDone
  rw [elim_judgedAt_iff]
  refine and_congr_right fun _ => exists_congr fun p => and_congr_right ?_
  rintro ⟨i, r, _, _, _, rfl⟩
  exact decide_eq_true_iff

/-- Which elements end the frame in progress, or abort it (R115, R116, R118). -/
theorem frameEnds_iff (c : FrameContext) (ch : TrunkChar) :
    frameEnds c ch = true ↔ c.parser = .finish ∨ (c.parser ≠ .idle ∧ ∀ v, ch ≠ .plain v) := by
  unfold frameEnds
  cases c.parser <;> cases ch <;> simp

theorem isRestartCarriedOut_iff (ch : TrunkBits) (s : State) : isRestartCarriedOut ch s = true
    ↔ trunkReady s ∧ s.sp.executed = true ∧ s.me.deferredRestart = true
      ∧ ((∃ i, AtSlot i .service s ∧ (s.sp.parser = .finish ∨ (s.sp.parser ≠ .idle ∧ ∀ v, classify ch ≠ .plain v)))
         ∨ (LosesLock ch s ∧ s.sp.parser ≠ .idle)) := by
  unfold isRestartCarriedOut
  rw [Bool.and_eq_true, Bool.and_eq_true, Bool.and_eq_true, decide_eq_true_eq]
  constructor
  · rintro ⟨⟨⟨hready, hdef⟩, hexec⟩, h⟩
    refine ⟨hready, hexec, hdef, ?_⟩
    split at h
    · rename_i i hlock hpos
      rw [Bool.and_eq_true, decide_eq_true_eq, frameEnds_iff] at h
      exact .inl ⟨i, ⟨hready, hlock, hpos, h.1⟩, h.2⟩
    · rw [Bool.and_eq_true, decide_eq_true_eq, isLockLost_iff] at h
      exact .inr ⟨h.1.2, h.2⟩
    · cases h
  · rintro ⟨hready, hexec, hdef, h⟩
    refine ⟨⟨⟨hready, hdef⟩, hexec⟩, ?_⟩
    rcases h with ⟨i, ⟨_, hlock, hpos, he⟩, hends⟩ | ⟨hlost, hp⟩
    · simp [hlock, hpos, he, (frameEnds_iff s.sp (classify ch)).mpr hends]
    · simp [hlost.1, hlost.2.1, (isLockLost_iff ch s).mpr ⟨hready, hlost⟩, hp]

end Sys2Proof.Machine
end

section
/-!
The answer to a received character, the ten rows, and the transparent part (R1, R2, R11, R12, R25); what a header
notice and a miss leave (R17 to R24).
-/

namespace Sys2Proof.Machine
open Relation

/-! ### A character is answered -/

theorem exec_trunkCharacterReceived (ch : TrunkBits) (s : State) :
    exec (.trunkCharacterReceived ch) s = .next (trunkStep ch s) := rfl

theorem trunkStep_ready {s : State} (h : trunkReady s) (ch : TrunkBits) :
    trunkStep ch s = (trackerStep (classify ch) s).2.withTrunk (trunkAnswered ch (trackerStep (classify ch) s).1) :=
  if_pos h

theorem trunkStep_waits {s : State} (h : ¬ trunkReady s) (ch : TrunkBits) : trunkStep ch s = s := if_neg h

theorem trunkRow_due {due : Bool} (h : due = true) (ch : TrunkBits) (s : State) : trunkRow due ch s = trunkStep ch s :=
  if_pos h

theorem trunkRow_idle {due : Bool} (h : due ≠ true) (ch : TrunkBits) (s : State) : trunkRow due ch s = s := if_neg h

/-- Each of the ten rows is the character's whole step exactly where the receiver takes the character and what the row
names comes about (log entry 1). -/
theorem exec_comesAbout {ch : TrunkBits} {s : State} {p : Instr × Prop} (hp : p ∈ comesAbout ch s) :
    ∃ due : Bool, exec p.1 s = .next (trunkRow due ch s) ∧ (due = true ↔ trunkReady s ∧ p.2) := by
  simp only [comesAbout, List.mem_cons, List.not_mem_nil, or_false] at hp
  rcases hp with rfl | rfl | rfl | rfl | rfl | rfl | rfl | rfl | rfl | rfl
  · exact ⟨_, rfl, isFallbackAction_iff ch s⟩
  · exact ⟨_, rfl, isLockGained_iff ch s⟩
  · exact ⟨_, rfl, isLockLost_iff ch s⟩
  · exact ⟨_, rfl, isSessionExpired_iff ch s⟩
  · exact ⟨_, rfl, isSwitchFire_iff ch s⟩
  · exact ⟨_, rfl, isGuardEnd_iff ch s⟩
  · exact ⟨_, rfl, isDeferredCapture_iff ch s⟩
  · exact ⟨_, rfl, isCheckerResync_iff ch s⟩
  · exact ⟨_, rfl, isTestDone_iff ch s⟩
  · exact ⟨_, rfl, isRestartCarriedOut_iff ch s⟩

/-- Settles O7: the character's step where the receiver takes it, and the ten rows by their tests. -/
theorem everyCharacterIsAnswered : Obligations.EveryCharacterIsAnswered := by
  refine fun ch s => ⟨fun hready => ?answered, fun hwaits => ?waits⟩
  case answered =>
    obtain ⟨_, hreset, hpending⟩ := (trackerStep_changes (classify ch) s).line_eq
    refine ⟨trunkStep ch s, (trackerStep (classify ch) s).1, rfl, ?_, ?_, ?_, fun p hp => ?_⟩
    · rw [trunkStep_ready hready]
      rfl
    · rw [trunkStep_ready hready]
      exact hreset.trans hready.1
    · rw [trunkStep_ready hready]
      exact hpending
    · obtain ⟨due, hexec, hdue⟩ := exec_comesAbout hp
      rw [hexec]
      exact ⟨fun h => congrArg _ (trunkRow_due (hdue.mpr ⟨hready, h⟩) ch s),
        fun h => congrArg _ (trunkRow_idle (fun hd => h (hdue.mp hd).2) ch s)⟩
  case waits =>
    refine ⟨congrArg _ (trunkStep_waits hwaits ch), fun p hp => ?_⟩
    obtain ⟨due, hexec, hdue⟩ := exec_comesAbout hp
    rw [hexec]
    exact congrArg _ (trunkRow_idle (fun hd => hwaits (hdue.mp hd).1) ch s)

/-! ### The transparent part -/

/-- A parity bit that agrees is the one the part would send (R1, R3). -/
theorem parity_of_odd {data : Byte} {mark parity : Bool} (h : oddOnes data mark parity = true) :
    (!(oddOnes data mark false)) = parity := by
  rw [oddOnes_eq] at h ⊢
  cases parity with
  | false =>
    rw [h]
    rfl
  | true =>
    have h' := of_decide_eq_true h
    simp only [Bool.toNat_true] at h'
    rw [decide_eq_false (by simp only [Bool.toNat_false]; omega)]
    rfl

/-- What is forwarded of a character that is not damaged is that character, bit for bit (R25). -/
theorem formTrunk_forwarded {ch : TrunkBits} (h : classify ch ≠ .damaged) (fill : Byte) :
    formTrunk ((classify ch).forwarded fill) = ch := by
  have hgood : (ch.stop && oddOnes ch.data ch.mark ch.parity) = true := by
    simpa using mt (classify_eq_damaged_iff ch).mpr h
  obtain ⟨hstop, hodd⟩ := Bool.and_eq_true_iff.mp hgood
  have hout : (classify ch).forwarded fill = { mark := ch.mark, data := ch.data } := by
    cases hm : ch.mark with
    | false => simp [classify_plain h hm, TrunkChar.forwarded, plainOut]
    | true =>
      rw [classify_marked h hm]
      split_ifs <;> simp_all [TrunkChar.forwarded, syncOut, syncAOut, sidleOut]
  rw [hout]
  obtain ⟨data, mark, parity, stop⟩ := ch
  obtain rfl : stop = true := hstop
  have hparity : (!(oddOnes data mark false)) = parity := parity_of_odd hodd
  simp only [formTrunk, hparity]

/-- What goes out for a character that is forwarded. -/
theorem formTrunk_forwarded_eq (ch : TrunkBits) (fill : Byte) : formTrunk ((classify ch).forwarded fill)
    = if classify ch = .damaged then formTrunk { mark := false, data := fill } else ch := by
  split_ifs with h
  · rw [h]
    rfl
  · exact formTrunk_forwarded h fill

theorem formTrunk_plain {ch : TrunkBits} {n : Byte} (h : classify ch = .plain n) :
    formTrunk { mark := false, data := n } = ch := by
  have := formTrunk_forwarded (ch := ch) (by simp [h]) 0
  rwa [h] at this

/-- The increments CT makes at a damaged character (R3). -/
def damageCounts (ch : TrunkBits) : List CounterIx := if classify ch = .damaged then [cntDamaged] else []

theorem countAll_damageCounts (ch : TrunkBits) (s : State) :
    countAll (damageCounts ch) s = if classify ch = .damaged then count 0 s else s := by
  unfold damageCounts
  split_ifs <;> rfl

theorem trackerStep_locked {s : State} (h : s.ct.lock = .locked) (ch : TrunkBits) :
    trackerStep (classify ch) s = lockedStep (classify ch) (damageCounts ch) s := by
  unfold trackerStep damageCounts
  simp only [h]

theorem trackerStep_unlocked {s : State} (h : s.ct.lock ≠ .locked) (ch : TrunkBits) :
    trackerStep (classify ch) s = unlockedStep (classify ch) (damageCounts ch) s := by
  unfold trackerStep damageCounts
  cases hl : s.ct.lock with
  | locked => exact absurd hl h
  | hunt => rfl
  | confirm => rfl

/-! ### What a header notice leaves -/

/-- The posts CB makes on a header notice (R167). -/
def capturePosts (c : CounterBlock) (n : Byte) (jump : Bool) : List Post :=
  if captureDue c n jump then [{ kind := .captureDone, detail := [c.capture.number + 1] }]
  else if c.deferred.armed && jump then [{ kind := .captureAbandoned, detail := [0x01] }] else []

/-- Increments leave the capture record and the deferred capture. -/
theorem countAll_capture (is : List CounterIx) (s : State) :
    (countAll is s).cb.capture = s.cb.capture ∧ (countAll is s).cb.deferred = s.cb.deferred := by
  induction is generalizing s with
  | nil => exact ⟨rfl, rfl⟩
  | cons i is ih => exact ih (count i s)

theorem captureNotice_posts (n : Byte) (jump : Bool) (is : List CounterIx) (s : State) :
    (captureNotice n jump is s).2 = capturePosts s.cb n jump := by
  unfold captureNotice capturePosts
  split_ifs with hdue
  · have hnum : ∀ u : State, (countRacing is snapshot u).cb.capture.number = u.cb.capture.number + 1 := by
      intro u
      unfold countRacing
      dsimp only
      rw [(countAll_capture _ _).1]
      change (countAll _ _).cb.capture.number + 1 = _
      rw [(countAll_capture _ _).1]
      rfl
    simp only [disarmCapture, State.withCb_cb, hnum]
  · simp only [*]
  · simp only [*]

/-- Increments write the live counters alone. -/
theorem countAll_eq (is : List CounterIx) (s : State) : ∃ cb, countAll is s = s.withCb cb := by
  induction is generalizing s with
  | nil => exact ⟨s.cb, rfl⟩
  | cons i is ih =>
    obtain ⟨cb, h⟩ := ih (count i s)
    exact ⟨cb, h⟩

/-- CB's work on a header notice writes the counters and the model's counter of free choices alone (R167). -/
theorem captureNotice_eq (n : Byte) (jump : Bool) (is : List CounterIx) (s : State) :
    ∃ cb k, (captureNotice n jump is s).1 = (s.withCb cb).withFreeCount k := by
  unfold captureNotice
  split
  · obtain ⟨cb, h⟩ := countAll_eq (freeEarly is s.freeCount) (s.withFreeCount (s.freeCount + is.length))
    obtain ⟨cb', h'⟩ := countAll_eq (freeLate is s.freeCount)
      (snapshot ((s.withFreeCount (s.freeCount + is.length)).withCb cb))
    unfold countRacing
    dsimp only
    rw [h, h']
    exact ⟨_, _, rfl⟩
  · obtain ⟨cb, h⟩ := countAll_eq is s
    dsimp only
    rw [h]
    split
    · exact ⟨{ cb with deferred := { cb.deferred with armed := false } }, s.freeCount, rfl⟩
    · exact ⟨cb, s.freeCount, rfl⟩

/-- MU and ME right after a header notice (R62, R69 to R73, R129). -/
def noticed (n : Byte) (jump : Bool) (s : State) : State :=
  (s.withMu (switchNotice n jump s.mu).1).withMe (sessionNotice s.me).1

/-- CT takes the Live length for the slots of a new cycle (R18). -/
def atSlotZero (t : State) : State := t.withCt { t.ct with slotsToGo := t.mu.live.length, position := .slot 0 }

theorem headerTaken_eq_atSlotZero (n : Byte) (jump : Bool) (posts : List Post) (is : List CounterIx) (s : State) :
    headerTaken n jump posts is s
      = atSlotZero (postTogether
          ((if jump then [posts ++ (switchNotice n jump s.mu).2] else [posts, (switchNotice n jump s.mu).2])
            ++ [(sessionNotice s.me).2, (captureNotice n jump is (noticed n jump s)).2])
          (captureNotice n jump is (noticed n jump s)).1) := rfl

/-- What a header notice leaves: MU's, ME's and CB's work, CT at slot 0 of a cycle of the Live length, and the posts of
the character in some order, CT's own next to that of a switch which a jump ends (R18, R23, R80, R141). -/
theorem headerTaken_eq (n : Byte) (jump : Bool) (posts : List Post) (is : List CounterIx) (s : State) :
    ∃ q k, headerTaken n jump posts is s
        = ((((noticed n jump s).withCb (captureNotice n jump is
            (noticed n jump s)).1.cb).withFreeCount k).withEq q).withCt
            { s.ct with slotsToGo := (switchNotice n jump s.mu).1.live.length, position := .slot 0 }
      ∧ PostedAtOnce (cycleField s) (posts ++ if jump then (switchNotice n jump s.mu).2 else [])
          ((if jump then [] else (switchNotice n jump s.mu).2) ++ ((sessionNotice s.me).2 ++ capturePosts s.cb n jump))
          s.eq q := by
  obtain ⟨cb, k, hcb⟩ := captureNotice_eq n jump is (noticed n jump s)
  have hposts : (captureNotice n jump is (noticed n jump s)).2 = capturePosts s.cb n jump :=
    captureNotice_posts n jump is (noticed n jump s)
  rw [headerTaken_eq_atSlotZero, hposts, hcb]
  cases jump with
  | true =>
    obtain ⟨before, p, after, k', hp, hothers, h⟩ := postTogether_cons (posts ++ (switchNotice n true s.mu).2)
      [(sessionNotice s.me).2, capturePosts s.cb n true] (((noticed n true s).withCb cb).withFreeCount k)
    refine ⟨_, k', congrArg atSlotZero h, before, p, after, hp, ?_, rfl⟩
    simpa using hothers
  | false =>
    obtain ⟨before, p, after, k', hp, hothers, h⟩ := postTogether_cons posts
      [(switchNotice n false s.mu).2, (sessionNotice s.me).2, capturePosts s.cb n false]
      (((noticed n false s).withCb cb).withFreeCount k)
    refine ⟨_, k', congrArg atSlotZero h, before, p, after, by simpa using hp, ?_, rfl⟩
    simpa using hothers

/-- Where the deferred capture waits and at most one post is due, the order is no choice. -/
theorem headerTaken_quiet {n : Byte} {jump : Bool} {posts ps : List Post} {is : List CounterIx} {s : State}
    (hcapture : ∀ u, u.cb = s.cb → captureNotice n jump is u = (countAll is u, []))
    (hps : posts ++ ((switchNotice n jump s.mu).2 ++ (sessionNotice s.me).2) = ps) (hlen : ps.length ≤ 1) :
    headerTaken n jump posts is s = (postList ps (countAll is (noticed n jump s))).withCt
      { s.ct with slotsToGo := (switchNotice n jump s.mu).1.live.length, position := .slot 0 } := by
  have hc : captureNotice n jump is (noticed n jump s) = (countAll is (noticed n jump s), []) := hcapture _ rfl
  have hflat : ((if jump then [posts ++ (switchNotice n jump s.mu).2] else [posts, (switchNotice n jump s.mu).2])
      ++ [(sessionNotice s.me).2, []]).flatten = ps := by
    rw [← hps]
    cases jump <;> simp
  rw [headerTaken_eq_atSlotZero, hc]
  unfold postTogether
  rw [hflat, if_pos hlen]
  unfold atSlotZero
  rw [(postList_frame _ _).2.2.1, (postList_frame _ _).2.2.2.2.1, (countAll_beside _ _).ct, (countAll_beside _ _).mu]
  rfl

/-! ### The header characters -/

/-- The number of a header adopted in LOCKED with nothing to say of a jump (R21, R22). -/
theorem ExpectedHeader.adopted {n : Byte} {ch : TrunkBits} {s : State} (h : ExpectedHeader n ch s) :
    adopted s.ct (classify ch) = (n, false) := by
  have hexp : expectedNumber s.ct = n := by simp [expectedNumber, h.cycle]
  rcases adopted_cases s.ct (classify ch) with ⟨hc, v, hv⟩ | hother
  · obtain rfl : v = n := by
      rcases h.noJump with hco | hv'
      · simp [hc] at hco
      · exact hv' v hv
    rw [hv, adopted_received hc]
    simp [hexp]
  · rw [adopted_expected hother, hexp]

/-- The increments of an expected header (R3, R21, R28). -/
def headerCounts (ch : TrunkBits) (c : CycleTracker) : List CounterIx := damageCounts ch ++ numberCounts c (classify ch)

theorem countAll_headerCounts (ch : TrunkBits) (c : CycleTracker) (s : State) :
    countAll (headerCounts ch c) s
      = if classify ch = .damaged ∨ ((classify ch).isMarked = true ∧ c.coasting = false) then count 0 s else s := by
  unfold headerCounts damageCounts numberCounts
  by_cases hd : classify ch = .damaged
  · simp [hd, TrunkChar.isMarked, countAll, cntDamaged]
  · by_cases hm : (classify ch).isMarked = true ∧ c.coasting = false
    · simp [hd, hm, countAll, cntDamaged]
    · have : ¬((!c.coasting && (classify ch).isMarked) = true) := by
        rw [Bool.and_eq_true, Bool.not_eq_true']
        exact fun h => hm ⟨h.2, h.1⟩
      simp only [hd, hm, this, or_self, if_false]
      rfl

/-- A header that carries the expected number, whole (R21, R22, R23). -/
theorem ExpectedHeader.trunkStep {n : Byte} {ch : TrunkBits} {s : State} (h : ExpectedHeader n ch s) :
    trunkStep ch s = (headerTaken n false [] (headerCounts ch s.ct) (s.withCt { s.ct with cycle := some n })).withTrunk
      (trunkAnswered ch (plainOut n)) := by
  rw [trunkStep_ready h.ready, trackerStep_locked h.locked, lockedStep, h.position]
  simp only [lockedNumber, h.adopted]
  rfl

/-- A header that is a cycle jump, whole (R21, R23). -/
theorem JumpHeader.trunkStep {n : Byte} {ch : TrunkBits} {s : State} (h : JumpHeader n ch s) :
    trunkStep ch s = (headerTaken n true [{ kind := .cycleJump, detail := [s.ct.cycle.getD 0 + 1, n] }] [cntJumps]
      (s.withCt { s.ct with cycle := some n })).withTrunk (trunkAnswered ch (plainOut n)) := by
  have hadopt : adopted s.ct (classify ch) = (n, true) := by
    obtain ⟨c, hc, hne⟩ := h.cycle
    have hjump : decide (n ≠ expectedNumber s.ct) = true := decide_eq_true (by rw [expectedNumber, hc]; exact hne)
    rw [h.received, adopted_received h.notCoasting, hjump]
  have hcount : damageCounts ch = [] := if_neg (by simp [h.received])
  rw [trunkStep_ready h.ready, trackerStep_locked h.locked, lockedStep, h.position]
  simp only [lockedNumber, hadopt, hcount]
  rfl

/-- The character that gains lock, whole (R17, R25). -/
theorem trunkStep_gainsLock {n : Byte} {ch : TrunkBits} {s : State} (hr : trunkReady s) (h : GainsLock n ch s) :
    trunkStep ch s = (headerTaken n false [{ kind := .lockGained, detail := [] }] [] (s.withCt
        (lockedOn n s.ct))).withTrunk
      (trunkAnswered ch (plainOut n)) := by
  have hlock : s.ct.lock ≠ .locked := by simp [h.1]
  have hcount : damageCounts ch = [] := if_neg (by simp [h.2.2.1])
  rw [trunkStep_ready hr, trackerStep_unlocked hlock, hcount]
  unfold unlockedStep
  rw [(gainsLock_eq_some_iff n ch s).mpr h, h.2.2.1]
  rfl

end Sys2Proof.Machine
end

section
/-!
A part that is not LOCKED: transparent forwarding, HUNT and CONFIRM, and the fallback action (R14 to R16, R25 to R27).
-/

namespace Sys2Proof.Machine
open Relation

/-! ### Transparent forwarding -/

theorem countAll_withCt (is : List CounterIx) (c : CycleTracker) (s : State) :
    countAll is (s.withCt c) = (countAll is s).withCt c := by
  induction is generalizing s with
  | nil => rfl
  | cons i is ih => exact ih (count i s)

/-- A character of an unlocked part that does not gain lock, whole (R25, R26). -/
theorem trunkStep_unlocked {ch : TrunkBits} {s : State} (hr : trunkReady s) (hl : s.ct.lock ≠ .locked)
    (hg : ∀ n, ¬ GainsLock n ch s) :
    trunkStep ch s = (advanceFallback
        ((countAll (damageCounts ch) s).withCt (unlockedNext s.mu.live.length (classify ch) s.ct))).withTrunk
      (trunkAnswered ch ((classify ch).forwarded s.me.node.fill)) := by
  rw [trunkStep_ready hr, trackerStep_unlocked hl]
  unfold unlockedStep
  rw [(gainsLock_eq_none_iff ch s).mpr hg]
  unfold onCt fillByte
  dsimp only
  rw [countAll_withCt]

theorem advanceFallback_frame (s : State) :
    (advanceFallback s).bu = s.bu ∧ (advanceFallback s).sp = s.sp ∧ (advanceFallback s).pu = s.pu
      ∧ (advanceFallback s).cb = s.cb := by
  unfold advanceFallback fallbackTaken
  split_ifs <;> exact ⟨rfl, rfl, rfl, rfl⟩

/-- The answer of a forwarded character (R25). -/
theorem trunkAnswered_forwarded (ch : TrunkBits) (fill : Byte) : trunkAnswered ch ((classify ch).forwarded fill)
    = { wait := if ch.stop then .fall else .lineHigh
        out := some (if classify ch = .damaged then formTrunk { mark := false, data := fill } else ch) } := by
  unfold trunkAnswered
  rw [formTrunk_forwarded_eq]

/-- The answer of a received number (R17, R21). -/
theorem trunkAnswered_plain {ch : TrunkBits} {n : Byte} (h : classify ch = .plain n) :
    trunkAnswered ch (plainOut n) = { wait := .fall, out := some ch } := by
  unfold trunkAnswered
  rw [stop_of_undamaged (by simp [h]), if_pos rfl, plainOut, formTrunk_plain h]

/-- Settles O8: what gains lock leaves, and what every other character leaves. -/
theorem unlockedPartIsTransparent : Obligations.UnlockedPartIsTransparent := by
  intro ch s hr hl
  refine ⟨trunkStep ch s, rfl, ?_⟩
  by_cases hg : ∃ n, GainsLock n ch s
  · obtain ⟨n, hg⟩ := hg
    have hch : classify ch = .plain n := hg.2.2.1
    obtain ⟨q, k, hstep, _⟩ := headerTaken_eq n false [{ kind := .lockGained, detail := [] }] [] (s.withCt
        (lockedOn n s.ct))
    rw [trunkStep_gainsLock hr hg, hstep, trunkAnswered_plain hch, if_neg (by simp [hch])]
    exact ⟨rfl, rfl, rfl, rfl, rfl⟩
  · have hpending := (trackerStep_changes (classify ch) s).line_eq.2.2
    have hstep := trunkStep_unlocked hr hl fun n h => hg ⟨n, h⟩
    obtain ⟨hbu, hsp, hpu, _⟩ := advanceFallback_frame
      ((countAll (damageCounts ch) s).withCt (unlockedNext s.mu.live.length (classify ch) s.ct))
    have hbeside := countAll_beside (damageCounts ch) s
    refine ⟨?_, ?_, ?_, ?_, ?_⟩
    · rw [hstep, trunkAnswered_forwarded]
      rfl
    · rw [hstep]
      exact hbu.trans hbeside.bu
    · rw [hstep]
      exact hsp.trans hbeside.sp
    · rw [hstep]
      exact hpu.trans hbeside.pu
    · rw [trunkStep_ready hr]
      exact hpending

/-! ### HUNT and CONFIRM -/

/-- What CT's own move in HUNT or CONFIRM leaves. -/
theorem unlockedNext_frame (live : Nat) (ch : TrunkChar) (c : CycleTracker) :
    (unlockedNext live ch c).missCount = c.missCount ∧ (unlockedNext live ch c).cycle = c.cycle
      ∧ (unlockedNext live ch c).coasting = c.coasting ∧ (unlockedNext live ch c).fallbackCount = c.fallbackCount := by
  unfold unlockedNext
  repeat' split
  all_goals exact ⟨rfl, rfl, rfl, rfl⟩

/-- A character that stays below the fallback threshold counts, unless the threshold is 0 (R26). -/
theorem advanceFallback_below {s : State}
    (h : s.me.node.fallbackThreshold = 0 ∨ s.ct.fallbackCount + 1 < 256 * s.me.node.fallbackThreshold.toNat) :
    advanceFallback s = s.withCt { s.ct with fallbackCount :=
      if s.me.node.fallbackThreshold = 0 then s.ct.fallbackCount else s.ct.fallbackCount + 1 } := by
  have hnot : ¬ fallbackReached s = true := by
    simp only [fallbackReached, decide_eq_true_eq, not_and, not_le]
    exact fun h0 => h.resolve_left h0
  unfold advanceFallback
  rw [if_neg hnot]
  split_ifs <;> rfl

section
variable {live : Nat} {ch : TrunkBits} {c : CycleTracker}

theorem unlockedNext_opens (hs : isSyncCode ch)
    (h : c.lock = .hunt ∨ (c.lock = .confirm ∧ (c.position = .awaitingNumber ∨ c.position = .header1))) :
    unlockedNext live (classify ch) c = toConfirm c := by
  have hsync : (classify ch).isSync = true := (isSync_iff ch).mpr hs
  cases c
  rcases h with hl | ⟨hl, hp | hp⟩
  · cases hl
    exact if_pos hsync
  · cases hl
    cases hp
    rcases hs with hch | hch <;> rw [hch] <;> rfl
  · cases hl
    cases hp
    rcases hs with hch | hch <;> rw [hch] <;> rfl

theorem unlockedNext_header0 (hs : isSyncCode ch) (hl : c.lock = .confirm) (hp : c.position = .header0) :
    unlockedNext live (classify ch) c = { c with position := .header1 } := by
  cases c
  cases hl
  cases hp
  exact if_pos ((isSync_iff ch).mpr hs)

theorem unlockedNext_first {n : Byte} (hch : classify ch = .plain n) (hl : c.lock = .confirm)
    (hp : c.position = .awaitingNumber) : unlockedNext live (classify ch) c
      = { c with tally := 1, reference := some (n + 1), slotsToGo := live, position := .slot 0 } := by
  rw [hch]
  cases c
  cases hl
  cases hp
  rfl

theorem unlockedNext_next {n : Byte} (hch : classify ch = .plain n) (hl : c.lock = .confirm)
    (hp : c.position = .header1) (href : c.reference = some n) : unlockedNext live (classify ch) c
      = { c with tally := c.tally + 1, reference := some (n + 1), slotsToGo := live, position := .slot 0 } := by
  rw [hch]
  cases c
  cases hl
  cases hp
  cases href
  exact if_pos rfl

theorem unlockedNext_slot {i : SlotIx} (hl : c.lock = .confirm) (hp : c.position = .slot i) :
    unlockedNext live (classify ch) c = slotTaken i c := by
  cases c
  cases hl
  cases hp
  rfl

/-- A character that neither opens a header nor carries on one leads to HUNT (R15, R16). -/
theorem unlockedNext_hunt (hs : ¬ isSyncCode ch)
    (hn : ∀ n, classify ch = .plain n → ¬(c.lock = .confirm ∧ (c.position = .awaitingNumber
      ∨ (c.position = .header1 ∧ c.reference = some n))))
    (hslot : ∀ i, ¬(c.lock = .confirm ∧ c.position = .slot i)) :
    unlockedNext live (classify ch) c = toHunt c := by
  have hsync : ¬ (classify ch).isSync = true := mt (isSync_iff ch).mp hs
  unfold unlockedNext
  split
  · rename_i hlc hpc
    split
    · rename_i n hch
      exact absurd ⟨hlc, .inl hpc⟩ (hn n hch)
    · exact absurd (.inl ‹_›) hs
    · exact absurd (.inr ‹_›) hs
    · rfl
  · rename_i i hlc hpc
    exact absurd ⟨hlc, hpc⟩ (hslot i)
  · rw [if_neg hsync]
  · rename_i hlc hpc
    split
    · rename_i n hch
      rw [if_neg fun href => hn n hch ⟨hlc, .inr ⟨hpc, href⟩⟩]
    · exact absurd (.inl ‹_›) hs
    · exact absurd (.inr ‹_›) hs
    · rfl
  · rw [if_neg hsync]

end

/-- Settles O11: CT's own move, then the fallback count, and the seven cases of the move. -/
theorem huntAndConfirm : Obligations.HuntAndConfirm := by
  intro ch s hr hl hg hf
  have hno : ∀ n, ¬ GainsLock n ch s := fun n ⟨hlc, hp, hch, href, hle⟩ => by
    have := hg n hlc hp hch href
    omega
  obtain ⟨hm, hc, hco, hfc⟩ := unlockedNext_frame s.mu.live.length (classify ch) s.ct
  have hme := (countAll_beside (damageCounts ch) s).me
  refine ⟨unlockedNext s.mu.live.length (classify ch) s.ct, ?step, hm, hc, hco, unlockedNext_lock hl _ _, ?opens,
    fun hs => unlockedNext_header0 hs, fun n hch => unlockedNext_first hch, fun n hch => unlockedNext_next hch,
    fun i => unlockedNext_slot, fun hs hn hslot => ?hunt⟩
  case step =>
    rw [exec_trunkCharacterReceived, trunkStep_unlocked hr hl hno, trunkAnswered_forwarded, advanceFallback_below,
      countAll_damageCounts]
    · simp only [State.withCt_me, State.withCt_ct, hfc, ← countAll_damageCounts, hme]
      rfl
    · simpa [hme, hfc] using hf
  case opens =>
    intro hs h
    have hopen : s.ct.lock = .hunt ∨ (s.ct.lock = .confirm ∧ (s.ct.position = .awaitingNumber
        ∨ s.ct.position = .header1)) := by
      rcases h with h | h
      · exact .inl h
      · cases hlock : s.ct.lock with
        | hunt => exact .inl rfl
        | confirm => exact .inr ⟨rfl, h⟩
        | locked => exact absurd hlock hl
    rw [unlockedNext_opens hs hopen]
    exact ⟨rfl, rfl, rfl⟩
  case hunt =>
    rw [unlockedNext_hunt hs hn hslot]
    exact ⟨rfl, rfl, rfl⟩

/-! ### The fallback action -/

theorem mapsDiffer_iff (m : MapUnit) :
    mapsDiffer m = true ↔ m.live ≠ SlotMap.bootstrap ∨ m.pendingMap ≠ SlotMap.bootstrap := decide_eq_true_iff

theorem fallbackTaken_same {s : State} (h : s.mu.live = SlotMap.bootstrap ∧ s.mu.pendingMap = SlotMap.bootstrap) :
    fallbackTaken s = s.withCt { s.ct with fallbackCount := 0 } := by
  have : ¬ mapsDiffer s.mu = true := by simp [mapsDiffer_iff, h]
  unfold fallbackTaken
  rw [if_neg this]
  rfl

theorem fallbackTaken_differs {s : State} (h : s.mu.live ≠ SlotMap.bootstrap ∨ s.mu.pendingMap ≠ SlotMap.bootstrap) :
    fallbackTaken s = ((((s.withMu (loadBootstrap s.mu)).withMe (closedSession s.me)).withEq
      (postTo s.eq (cycleField s) { kind := .fallback, detail := [] })).withCt { s.ct with fallbackCount := 0 }) := by
  unfold fallbackTaken
  rw [if_pos ((mapsDiffer_iff s.mu).mpr h)]
  rfl

/-- Settles O17: the character's own move, then the fallback action, by whether a map differs from bootstrap. -/
theorem fallbackRevertsTheMaps : Obligations.FallbackRevertsTheMaps := by
  intro ch s hr hl hg h0 hreach
  have hno : ∀ n, ¬ GainsLock n ch s := fun n ⟨hlc, hp, hch, href, hle⟩ => by
    have := hg n hlc hp hch href
    omega
  obtain ⟨hm, hc, hco, hfc⟩ := unlockedNext_frame s.mu.live.length (classify ch) s.ct
  have hlock := unlockedNext_lock hl s.mu.live.length (classify ch)
  have hbeside := countAll_beside (damageCounts ch) s
  obtain ⟨u, hu⟩ : ∃ u, u = (countAll (damageCounts ch) s).withCt (unlockedNext s.mu.live.length (classify ch) s.ct) :=
    ⟨_, rfl⟩
  have hreached : fallbackReached u = true := by
    simp only [fallbackReached, decide_eq_true_eq, hu, State.withCt_me, State.withCt_ct, hbeside.me, hfc]
    exact ⟨h0, hreach⟩
  have hstep : trunkStep ch s = (fallbackTaken u).withTrunk (trunkAnswered ch
      ((classify ch).forwarded s.me.node.fill)) := by
    rw [trunkStep_unlocked hr hl hno, ← hu, advanceFallback, if_pos hreached]
  have hrow : exec (.fallbackAction ch) s = .next (trunkStep ch s) :=
    congrArg _ (trunkRow_due ((isFallbackAction_iff ch s).mpr ⟨hr, hl, hno, h0, hreach⟩) ch s)
  have hcb : u.cb = (if classify ch = .damaged then count 0 s else s).cb := by rw [hu, ← countAll_damageCounts]; rfl
  have hmu : u.mu = s.mu := by rw [hu]; exact hbeside.mu
  have hme : u.me = s.me := by rw [hu]; exact hbeside.me
  have heq : u.eq = s.eq := by rw [hu]; exact hbeside.eq
  have hcycle : cycleField u = none := if_neg (by rw [hu]; exact hlock)
  have hct : u.ct = unlockedNext s.mu.live.length (classify ch) s.ct := by rw [hu]; rfl
  have hbu : u.bu = s.bu := by rw [hu]; exact hbeside.bu
  have hsp : u.sp = s.sp := by rw [hu]; exact hbeside.sp
  have hpu : u.pu = s.pu := by rw [hu]; exact hbeside.pu
  have hpe : u.pending = s.pending := by rw [hu]; exact hbeside.pending
  refine ⟨_, hrow, ?_⟩
  rw [hstep, trunkAnswered_forwarded]
  by_cases hdiff : s.mu.live ≠ SlotMap.bootstrap ∨ s.mu.pendingMap ≠ SlotMap.bootstrap
  · rw [fallbackTaken_differs (hmu ▸ hdiff), hct, hmu, hme, heq, hcycle]
    refine ⟨rfl, hlock, hc, hm, hco, rfl, hbu, hsp, hpu, rfl, hpe, hcb, fun hsame => ?_, fun _ => ⟨rfl, rfl, rfl, rfl⟩⟩
    rcases hdiff with h | h
    · exact absurd hsame.1 h
    · exact absurd hsame.2 h
  · have hsame : s.mu.live = SlotMap.bootstrap ∧ s.mu.pendingMap = SlotMap.bootstrap := by
      simpa using hdiff
    rw [fallbackTaken_same (hmu ▸ hsame), hct]
    refine ⟨rfl, hlock, hc, hm, hco, rfl, hbu, hsp, hpu, ?_, hpe, hcb, fun _ => ⟨hmu, hme, heq⟩,
        fun h => absurd h hdiff⟩
    exact congrArg _ hmu

end Sys2Proof.Machine
end

section
/-!
The headers of a locked cycle: lock gained, the number adopted, the cycle jump, the session that expires, the switch and
the deferred capture (R17, R21 to R23, R69 to R73, R129, R167).
-/

namespace Sys2Proof.Machine
open Relation

/-! ### Posts of one instant -/

/-- Posts that fall at one instant, as one list in some order. -/
theorem PostedAtOnce.order {c : Option Byte} {g o : List Post} {q q' : EventQueue} (h : PostedAtOnce c g o q q') :
    ∃ ps : List Post, ps.Perm (g ++ o) ∧ q' = ps.foldl (fun e x => postTo e c x) q := by
  obtain ⟨before, p, after, hp, hothers, rfl⟩ := h
  refine ⟨_, ?_, rfl⟩
  rw [List.append_assoc]
  exact (List.perm_append_comm_assoc before p after).trans (hp.append hothers)

theorem PostedAtOnce.none {c : Option Byte} {g o : List Post} {q q' : EventQueue} (h : PostedAtOnce c g o q q')
    (hnone : g ++ o = []) : q' = q := by
  obtain ⟨ps, hps, rfl⟩ := h.order
  rw [hnone, List.perm_nil] at hps
  rw [hps]
  rfl

theorem PostedAtOnce.one {c : Option Byte} {g o : List Post} {q q' : EventQueue} {p : Post}
    (h : PostedAtOnce c g o q q') (hone : g ++ o = [p]) : q' = postTo q c p := by
  obtain ⟨ps, hps, rfl⟩ := h.order
  rw [hone, List.perm_singleton] at hps
  rw [hps]
  rfl

theorem PostedAtOnce.congr {c : Option Byte} {g o g' o' : List Post} {q q' : EventQueue} (h : PostedAtOnce c g o q q')
    (hg : g' = g) (ho : o' = o) : PostedAtOnce c g' o' q q' := by
  rw [hg, ho]
  exact h

/-! ### MU's and ME's work on a notice, case by case -/

theorem switchNotice_pendingMap (n : Byte) (jump : Bool) (m : MapUnit) :
    (switchNotice n jump m).1.pendingMap = m.pendingMap := by
  have hfire : ∀ m : MapUnit, (fireSwitch m).1.pendingMap = m.pendingMap := by
    intro m
    unfold fireSwitch
    dsimp only
    split <;> simp only
  unfold switchNotice
  dsimp only
  split
  · exact hfire _
  · split
    · simp only [completeGuard, recordHeader]
    · split <;> simp only [abandonSwitch, recordHeader]

theorem switchNotice_fires {n : Byte} {m : MapUnit} (hs : m.switch.state = .armed) (hn : m.switch.cycle = n) :
    switchNotice n false m = fireSwitch (noted n m) := by
  simp [switchNotice, fireDue, recordHeader, noted, hs, hn]

theorem switchNotice_guardEnds {n : Byte} {m : MapUnit} (hs : m.switch.state = .guarding) (hn : m.switch.guardEnd = n) :
    switchNotice n false m = (completeGuard (noted n m) .none, [switchDonePost m.switch false]) := by
  simp [switchNotice, fireDue, guardEndDue, recordHeader, noted, hs, hn, switchDonePost]

/-- A jump abandons an ARMED switch (R72). -/
theorem switchNotice_jump_armed {m : MapUnit} (hs : m.switch.state = .armed) (n : Byte) :
    switchNotice n true m = (abandonSwitch (noted n m) .cycleJump, [switchAbandonedPost m.switch .cycleJump]) := by
  simp [switchNotice, fireDue, guardEndDue, jumpCompleteDue, abandonDue, recordHeader, noted, hs, switchAbandonedPost]

/-- A jump of the guard length or more completes the guard; a shorter one lets it run on (R73). -/
theorem switchNotice_jump_guarding {m : MapUnit} (hs : m.switch.state = .guarding) (n : Byte) :
    switchNotice n true m
      = if m.switch.guardLength.toNat ≤ (n - m.switch.cycle).toNat then
          (completeGuard (noted n m) .none, [switchDonePost m.switch false])
        else (noted n m, []) := by
  simp [switchNotice, fireDue, guardEndDue, jumpCompleteDue, abandonDue, recordHeader, noted, hs, switchDonePost,
    distance]

theorem completeGuard_pendingMap (m : MapUnit) (why : OutcomeReason) :
    (completeGuard m why).pendingMap = m.pendingMap := by
  simp only [completeGuard]

/-- A guard that ends or is completed leaves the length and gives each guarded index its Pending entry (R71). -/
theorem completeGuard_length (m : MapUnit) (why : OutcomeReason) : (completeGuard m why).live.length
    = m.live.length := by
  simp only [completeGuard, guardFinished_length]

theorem completeGuard_entry (m : MapUnit) (why : OutcomeReason) (i : SlotIx) : (completeGuard m why).live.entries[i]
    = if m.live.entries[i] = .guard then m.pendingMap.entries[i] else m.live.entries[i] := by
  simp only [completeGuard, guardFinished_entry]

theorem sessionNotice_none {m : Management} (h : m.session = none) : sessionNotice m = (m, []) := by
  unfold sessionNotice
  rw [h]

theorem sessionNotice_expires {m : Management} {k : Session} (h : m.session = some k)
    (hdue : 16 * m.node.sessionTimeout.toNat ≤ m.inactivity + 1) :
    sessionNotice m = (closed m, [{ kind := .sessionExpired, detail := [k.owner, k.tag] }]) := by
  have he : expiryDue m = true := by simp [expiryDue, h, hdue]
  unfold sessionNotice
  simp only [h, he]
  rfl

theorem timed_of_some {m : Management} {k : Session} (h : m.session = some k) :
    timed m = { m with inactivity := m.inactivity + 1 } := by
  unfold timed
  rw [h]
  rfl

/-! ### CB's work on a notice, case by case -/

theorem capturePosts_waits {n : Byte} {c : CounterBlock} (h : CaptureWaits n c.deferred) : capturePosts c n false
    = [] := by
  unfold capturePosts captureDue
  cases ha : c.deferred.armed with
  | false => simp
  | true => simp [(h ha).symm]

theorem capturePosts_due {c : CounterBlock} (h : c.deferred.armed = true) :
    capturePosts c c.deferred.cycle false = [{ kind := .captureDone, detail := [c.capture.number + 1] }] := by
  simp [capturePosts, captureDue, h]

theorem capturePosts_jump (n : Byte) (c : CounterBlock) : capturePosts c n true
    = if c.deferred.armed then [{ kind := .captureAbandoned, detail := [0x01] }] else [] := by
  simp [capturePosts, captureDue]

/-- A jump returns the deferred capture to IDLE without a snapshot (R167). -/
theorem captureNotice_jump (n : Byte) (is : List CounterIx) (s : State) : (captureNotice n true is s).1.cb
    = { (countAll is s).cb with deferred := { s.cb.deferred with armed := false } } := by
  have hd := (countAll_capture is s).2
  cases ha : s.cb.deferred.armed with
  | true => simp [captureNotice, captureDue, disarmCapture, ha, hd]
  | false =>
    have hoff : { s.cb.deferred with armed := false } = (countAll is s).cb.deferred := by rw [hd, ← ha]
    rw [captureNotice_idle ha, hoff]

/-- One more of a counter, as the requests and headers state it (R163). -/
theorem satInc_eq (w : Word16) : satInc w = if w = 0xFFFF then 0xFFFF else w + 1 := by
  unfold satInc
  split
  · assumption
  · rfl

/-! ### What a header leaves -/

/-- Every block right after a header notice, before the answer (R18, R23, R80, R141). -/
structure HeaderLeaves (n : Byte) (jump : Bool) (posts : List Post) (is : List CounterIx) (s t : State) : Prop where
  ct : t.ct = { s.ct with slotsToGo := t.mu.live.length, position := .slot 0 }
  mu : t.mu = (switchNotice n jump s.mu).1
  me : t.me = (sessionNotice s.me).1
  bu : t.bu = s.bu
  sp : t.sp = s.sp
  pu : t.pu = s.pu
  pending : t.pending = s.pending
  cb : t.cb = (captureNotice n jump is (noticed n jump s)).1.cb
  posted : PostedAtOnce (cycleField s) (posts ++ if jump then (switchNotice n jump s.mu).2 else [])
    ((if jump then [] else (switchNotice n jump s.mu).2) ++
        ((sessionNotice s.me).2 ++ capturePosts s.cb n jump)) s.eq t.eq

theorem headerTaken_leaves (n : Byte) (jump : Bool) (posts : List Post) (is : List CounterIx) (s : State) :
    HeaderLeaves n jump posts is s (headerTaken n jump posts is s) := by
  obtain ⟨q, k, h, hposted⟩ := headerTaken_eq n jump posts is s
  rw [h]
  exact ⟨rfl, rfl, rfl, rfl, rfl, rfl, rfl, rfl, hposted⟩

/-- The deferred capture waits: the counters take the increments of the character (R167). -/
theorem HeaderLeaves.cb_waits {n : Byte} {posts : List Post} {is : List CounterIx} {s t : State}
    (h : HeaderLeaves n false posts is s t) (hc : CaptureWaits n s.cb.deferred) :
    t.cb = (countAll is (noticed n false s)).cb := by
  rw [h.cb, captureNotice_waits (s := noticed n false s) hc]

theorem HeaderLeaves.me_lasts {n : Byte} {jump : Bool} {posts : List Post} {is : List CounterIx} {s t : State}
    (h : HeaderLeaves n jump posts is s t) (hs : SessionLasts s.me) : t.me = timed s.me := by
  rw [h.me, sessionNotice_quiet hs]

/-- The increments of an expected header reach the counters alone, in whatever state of the other blocks. -/
theorem countAll_headerCounts_cb (ch : TrunkBits) (c : CycleTracker) {s u : State} (h : u.cb = s.cb) :
    (countAll (headerCounts ch c) u).cb
      = (if classify ch = .damaged ∨ ((classify ch).isMarked = true
          ∧ c.coasting = false) then count 0 s else s).cb := by
  rw [countAll_headerCounts]
  split_ifs with hcount
  · unfold count
    rw [h]
    rfl
  · exact h

theorem ExpectedHeader.notice {n : Byte} {ch : TrunkBits} {s : State} (h : ExpectedHeader n ch s) :
    GivesNotice n False ch s := by
  have hexp : n = s.ct.cycle.getD 0 + 1 := by simp [h.cycle]
  refine .inr ?_
  cases hco : s.ct.coasting with
  | true => exact .inr ⟨h.locked, h.position, .inl rfl, hexp, id⟩
  | false =>
    by_cases hv : ∃ v, classify ch = .plain v
    · obtain ⟨v, hv⟩ := hv
      have hvn : v = n := h.noJump.elim (fun hc => absurd hc (by simp [hco])) (fun hp => hp v hv)
      subst hvn
      exact .inl ⟨h.locked, h.position, rfl, hv, ⟨False.elim, fun hne => hne hexp⟩⟩
    · exact .inr ⟨h.locked, h.position, .inr fun v hp => hv ⟨v, hp⟩, hexp, id⟩

theorem JumpHeader.notice {n : Byte} {ch : TrunkBits} {s : State} (h : JumpHeader n ch s) :
    GivesNotice n True ch s := by
  obtain ⟨c, hc, hne⟩ := h.cycle
  exact .inr (.inl ⟨h.locked, h.position, h.notCoasting, h.received, ⟨fun _ => by simpa [hc] using hne,
      fun _ => trivial⟩⟩)

/-- The header at which a session expires leaves ME with the session closed. -/
theorem HeaderLeaves.me_expires {n : Byte} {jump : Bool} {posts : List Post} {is : List CounterIx} {s t : State}
    {k : Session} (h : HeaderLeaves n jump posts is s t) (hk : s.me.session = some k)
    (hdue : 16 * s.me.node.sessionTimeout.toNat ≤ s.me.inactivity + 1) : t.me = closed s.me := by
  rw [h.me, sessionNotice_expires hk hdue]

theorem HeaderLeaves.pendingMap {n : Byte} {jump : Bool} {posts : List Post} {is : List CounterIx} {s t : State}
    (h : HeaderLeaves n jump posts is s t) : t.mu.pendingMap = s.mu.pendingMap := by
  rw [h.mu, switchNotice_pendingMap]

/-- The state before the notice of an expected header or of a jump: the number is CT's (R21). -/
abbrev numbered (n : Byte) (s : State) : State := s.withCt { s.ct with cycle := some n }

theorem cycleField_numbered {s : State} (h : s.ct.lock = .locked) (n : Byte) : cycleField (numbered n s) = some n :=
  if_pos h

/-- CT's post at a cycle jump (R21). -/
abbrev jumpPost (n : Byte) (s : State) : Post := { kind := .cycleJump, detail := [s.ct.cycle.getD 0 + 1, n] }

/-- CT's post as it gains lock (R17). -/
abbrev lockGainedPost : Post := { kind := .lockGained, detail := [] }

theorem ExpectedHeader.leaves {n : Byte} {ch : TrunkBits} {s : State} (h : ExpectedHeader n ch s) :
    ∃ t, Machine.trunkStep ch s = t.withTrunk (trunkAnswered ch (plainOut n))
      ∧ HeaderLeaves n false [] (headerCounts ch s.ct) (numbered n s) t :=
  ⟨_, h.trunkStep, headerTaken_leaves ..⟩

theorem JumpHeader.leaves {n : Byte} {ch : TrunkBits} {s : State} (h : JumpHeader n ch s) :
    ∃ t, Machine.trunkStep ch s = t.withTrunk (trunkAnswered ch (plainOut n))
      ∧ HeaderLeaves n true [jumpPost n s] [cntJumps] (numbered n s) t :=
  ⟨_, h.trunkStep, headerTaken_leaves ..⟩

theorem gainsLock_leaves {n : Byte} {ch : TrunkBits} {s : State} (hr : trunkReady s) (h : GainsLock n ch s) :
    ∃ t, trunkStep ch s = t.withTrunk (trunkAnswered ch (plainOut n))
      ∧ HeaderLeaves n false [lockGainedPost] [] (s.withCt (lockedOn n s.ct)) t :=
  ⟨_, trunkStep_gainsLock hr h, headerTaken_leaves ..⟩

/-- The posts of an expected header (R80, R141). -/
theorem HeaderLeaves.posted_expected {n : Byte} {is : List CounterIx} {s t : State} {p : List Post}
    (ht : HeaderLeaves n false [] is (numbered n s) t) (h : s.ct.lock = .locked)
    (hp : (switchNotice n false s.mu).2 ++ ((sessionNotice s.me).2 ++ capturePosts s.cb n false) = p) :
    PostedAtOnce (some n) [] p s.eq t.eq := by
  have hposted := ht.posted
  rw [cycleField_numbered h] at hposted
  exact hposted.congr rfl hp.symm

/-! ### The obligations -/

/-- Settles O12: the character is the notice of a header, taken as CT enters LOCKED. -/
theorem lockIsGained : Obligations.LockIsGained := by
  intro ch n s hr hlock hpos hch href htally
  have hg : GainsLock n ch s := ⟨hlock, hpos, hch, href, htally⟩
  have hexec : exec (.lockGained ch) s = .next (trunkStep ch s) :=
    congrArg Host.Outcome.next (trunkRow_due ((isLockGained_iff ch s).mpr ⟨hr, n, hg⟩) ch s)
  refine ⟨?_, fun hq => ?_⟩
  · obtain ⟨t, hstep, ht⟩ := gainsLock_leaves hr hg
    rw [hexec, hstep, trunkAnswered_plain hch]
    exact ⟨_, rfl, ht.ct, rfl, ht.pendingMap, ht.bu, ht.sp, ht.pu, ht.pending⟩
  · rw [hexec, trunkStep_gainsLock hr hg, trunkAnswered_plain hch]
    have hsw := switchNotice_waits hq.switch
    have hse := sessionNotice_quiet hq.session
    rw [headerTaken_quiet (ps := [{ kind := .lockGained, detail := [] }])
      (fun u hu => captureNotice_waits (by rw [hu]; exact hq.capture) _) (by simp [hsw, hse]) le_rfl]
    simp only [noticed, State.withCt_mu, State.withCt_me, hsw, hse]
    rfl

/-- Settles O15: the header's own work where the switch, the session and the deferred capture wait. -/
theorem headerNumberIsAdopted : Obligations.HeaderNumberIsAdopted := by
  intro ch n s hq
  have hse := sessionNotice_quiet hq.session
  refine ⟨fun h => ?expected, fun h hidle hoff => ?jump⟩
  case expected =>
    have hsw := switchNotice_waits hq.switch
    rw [exec_trunkCharacterReceived, h.trunkStep, headerTaken_quiet (ps := [])
      (fun u hu => captureNotice_waits (by rw [hu]; exact hq.capture) _) (by simp [hsw, hse]) (Nat.zero_le 1),
      countAll_headerCounts]
    simp only [noticed, State.withCt_mu, State.withCt_me, hsw, hse]
    split
    · rfl
    · rfl
  case jump =>
    have hsw := switchNotice_idle hidle n true
    have hc := captureNotice_idle (s := s) hoff
    rw [exec_trunkCharacterReceived, h.trunkStep, trunkAnswered_plain h.received,
      headerTaken_quiet (ps := [{ kind := .cycleJump, detail := [s.ct.cycle.getD 0 + 1, n] }])
        (fun u hu => captureNotice_idle (by rw [hu]; exact hoff) _ _ _) (by simp [hsw, hse]) le_rfl]
    simp only [noticed, State.withCt_mu, State.withCt_me, hsw, hse]
    have hfield : cycleField (countAll [cntJumps]
        (((s.withCt { s.ct with cycle := some n }).withMu (noted n s.mu)).withMe (timed s.me))) = some n :=
      if_pos h.locked
    rw [postList_eq, hfield]
    rfl

/-- The sync code that goes out at header position 0 (R24, R146). -/
theorem syncOutput_eq (ch : TrunkBits) (s : State) : syncOutput (classify ch) (attentionAsked s)
    = { mark := true
        data := if classify ch = .syncA ∨ (s.eq.events ≠ [] ∧ s.me.node.attention = true) then 0x3D else 0x3C } := by
  unfold syncOutput attentionAsked
  have hbool : (decide (classify ch = .syncA) || (!s.eq.events.isEmpty && s.me.node.attention)) = true
      ↔ classify ch = .syncA ∨ (s.eq.events ≠ [] ∧ s.me.node.attention = true) := by simp
  by_cases h : classify ch = .syncA ∨ (s.eq.events ≠ [] ∧ s.me.node.attention = true)
  · rw [if_pos (hbool.mpr h), if_pos h]
    rfl
  · rw [if_neg (fun hb => h (hbool.mp hb)), if_neg h]
    rfl

theorem undamaged_of_sync {ch : TrunkBits} (h : isSyncCode ch) : classify ch ≠ .damaged := by
  rcases h with h | h <;> simp [h]

/-- Settles O14: a sync code ends the misses, anything else is one more. -/
theorem headerSyncIsSentOrRegenerated : Obligations.HeaderSyncIsSentOrRegenerated := by
  rintro ch s out hr hl hpos rfl
  have hstep : trunkStep ch s = (lockedSync (classify ch) (damageCounts ch) s).2.withTrunk
      (trunkAnswered ch (lockedSync (classify ch) (damageCounts ch) s).1) := by
    rw [trunkStep_ready hr, trackerStep_locked hl, lockedStep, hpos]
  refine ⟨fun hsync => ?_, fun hsync hmiss => ?_⟩
  · rw [exec_trunkCharacterReceived, hstep, lockedSync, if_pos ((isSync_iff ch).mpr hsync), syncOutput_eq, damageCounts,
      if_neg (undamaged_of_sync hsync), trunkAnswered, stop_of_undamaged (undamaged_of_sync hsync)]
    rfl
  · have hkept : ¬ missLosesLock s = true := by
      rw [missLosesLock, decide_eq_true_eq]
      omega
    rw [exec_trunkCharacterReceived, hstep, lockedSync, if_neg (fun h => hsync ((isSync_iff ch).mp h)), if_neg hkept,
      syncOutput_eq]
    unfold damageCounts
    by_cases hd : classify ch = .damaged
    · rw [if_pos hd, if_pos hd]
      rfl
    · rw [if_neg hd, if_neg hd]
      rfl

/-- Settles O16: what a jump does to the switch, the session and the deferred capture, and the posts. -/
theorem cycleJumpEndsWorkInFlight : Obligations.CycleJumpEndsWorkInFlight := by
  intro ch n s h
  obtain ⟨t, hstep, ht⟩ := h.leaves
  have hmu := ht.mu
  have hme := ht.me
  have hposted := ht.posted
  simp only [State.withCt_mu, State.withCt_me] at hmu hme
  rw [exec_trunkCharacterReceived, hstep, trunkAnswered_plain h.received]
  refine ⟨_, rfl, ht.ct, rfl, ht.bu, ht.sp, ht.pu, ht.pendingMap, ht.pending, fun hn => ?_, ?_, fun k hk hlast => ?_,
    fun k hk hdue => ?_, fun hs => ?_, fun hs => ?_, fun hs hd => ?_, fun hs hd => ?_, ?_⟩
  · exact hme.trans (by rw [sessionNotice_none hn])
  · rw [State.withTrunk_cb, ht.cb, captureNotice_jump, ← satInc_eq]
    rfl
  · exact hme.trans (by rw [sessionNotice_quiet fun _ => hlast, timed_of_some hk])
  · exact hme.trans (by rw [sessionNotice_expires hk hdue])
  · exact hmu.trans (by rw [switchNotice_idle hs])
  · exact hmu.trans (by rw [switchNotice_jump_armed hs]; rfl)
  · exact hmu.trans (by rw [switchNotice_jump_guarding hs, if_neg (Nat.not_le.mpr hd)])
  · have hdone := hmu.trans (by rw [switchNotice_jump_guarding hs, if_pos hd])
    simp only [State.withTrunk_mu, hdone]
    exact ⟨completeGuard_length _ _, fun i => completeGuard_entry _ _ i, rfl⟩
  · rw [cycleField_numbered h.locked] at hposted
    refine hposted.congr ?_ ?_
    · cases hs : s.mu.switch.state with
      | idle => simp [switchNotice_idle hs]
      | armed => simp [switchNotice_jump_armed hs, switchAbandonedPost, OutcomeReason.code]
      | guarding =>
        simp only [if_true, State.withCt_mu, switchNotice_jump_guarding hs]
        split_ifs <;> rfl
    · simp only [if_true, List.nil_append, State.withCt_me, State.withCt_cb, capturePosts_jump]
      cases hk : s.me.session with
      | none => rw [sessionNotice_none hk]
      | some k =>
        by_cases hdue : 16 * s.me.node.sessionTimeout.toNat ≤ s.me.inactivity + 1
        · rw [sessionNotice_expires hk hdue]
          simp only [if_pos hdue]
        · rw [sessionNotice_quiet fun _ => Nat.not_le.mp hdue]
          simp only [if_neg hdue]

/-- Settles O18: each of the three kinds of header. -/
theorem sessionExpires : Obligations.SessionExpires := by
  intro ch n s k hheader hk hdue
  have hexec : exec (.sessionExpired ch) s = .next (trunkStep ch s) := by
    have hnotice : trunkReady s ∧ ∃ n jump, GivesNotice n jump ch s := by
      rcases hheader with h | h | ⟨hr, hg⟩
      · exact ⟨h.ready, n, False, h.notice⟩
      · exact ⟨h.ready, n, True, h.notice⟩
      · exact ⟨hr, n, False, .inl ⟨hg, id⟩⟩
    exact congrArg Host.Outcome.next
      (trunkRow_due ((isSessionExpired_iff ch s).mpr ⟨hnotice.1, hnotice.2, by simp [hk], hdue⟩) ch s)
  have hse := sessionNotice_expires hk hdue
  rw [hexec]
  rcases hheader with h | h | ⟨hr, hg⟩
  · obtain ⟨t, hstep, ht⟩ := h.leaves
    have hconfirm : s.ct.lock ≠ .confirm := by simp [h.locked]
    rw [hstep]
    refine ⟨_, rfl, ht.me_expires hk hdue, rfl, ht.pendingMap, ht.bu, ht.sp, ht.pu, ht.pending, fun _ => ht.ct,
      fun hc => absurd hc hconfirm, fun _ hsw hcw => ⟨?_, ?_, ?_⟩, fun hc => absurd hc hconfirm⟩
    · exact (ht.posted_expected h.locked rfl).one (by simp [switchNotice_waits hsw, hse, capturePosts_waits hcw])
    · exact ht.mu.trans (congrArg Prod.fst (switchNotice_waits hsw))
    · exact (ht.cb_waits hcw).trans (countAll_headerCounts_cb ch s.ct rfl)
  · obtain ⟨t, hstep, ht⟩ := h.leaves
    have hconfirm : s.ct.lock ≠ .confirm := by simp [h.locked]
    rw [hstep]
    refine ⟨_, rfl, ht.me_expires hk hdue, rfl, ht.pendingMap, ht.bu, ht.sp, ht.pu, ht.pending, fun _ => ht.ct,
      fun hc => absurd hc hconfirm, fun he => ?_, fun hc => absurd hc hconfirm⟩
    obtain ⟨c, hc, hne⟩ := h.cycle
    refine absurd ?_ hne
    have hn := he.cycle.symm.trans hc
    rw [← Option.some.inj hn, sub_add_cancel]
  · obtain ⟨t, hstep, ht⟩ := gainsLock_leaves hr hg
    have hlocked : s.ct.lock ≠ .locked := by simp [hg.1]
    rw [hstep]
    refine ⟨_, rfl, ht.me_expires hk hdue, rfl, ht.pendingMap, ht.bu, ht.sp, ht.pu, ht.pending,
      fun hl => absurd hl hlocked, fun _ => ht.ct, fun he => absurd he.locked hlocked, fun _ hsw hcw => ⟨?_, ?_, ?_⟩⟩
    · have hposted := ht.posted
      rw [if_neg (by decide), if_neg (by decide)] at hposted
      exact hposted.congr rfl (by simp [switchNotice_waits hsw, hse, capturePosts_waits hcw])
    · exact ht.mu.trans (congrArg Prod.fst (switchNotice_waits hsw))
    · exact ht.cb_waits hcw

/-- Settles O20: the guard is completed at its header. -/
theorem guardEnds : Obligations.GuardEnds := by
  rintro ch n s r h rfl hs hn
  have hexec : exec (.guardEnd ch) s = .next (trunkStep ch s) :=
    congrArg Host.Outcome.next (trunkRow_due ((isGuardEnd_iff ch s).mpr ⟨h.ready, hs, hn ▸ h.notice⟩) ch s)
  obtain ⟨t, hstep, ht⟩ := h.leaves
  have hsw := switchNotice_guardEnds hs hn
  have hmu := ht.mu.trans (congrArg Prod.fst hsw)
  have hlength : t.mu.live.length = s.mu.live.length := by
    rw [hmu, completeGuard_length]
    rfl
  rw [hexec, hstep]
  refine ⟨_, rfl, hlength, ht.pendingMap, fun i => ?_, ?_, ?_, rfl, ht.bu, ht.sp, ht.pu, ht.pending,
    fun hlast => ⟨ht.me_lasts hlast, fun hcw => ⟨?_, ?_⟩⟩⟩
  · rw [State.withTrunk_mu, hmu, completeGuard_entry]
    rfl
  · rw [State.withTrunk_mu, hmu]
    rfl
  · rw [State.withTrunk_ct, ht.ct, hlength]
    rfl
  · exact (ht.cb_waits hcw).trans (countAll_headerCounts_cb ch s.ct rfl)
  · exact (ht.posted_expected h.locked rfl).one (by
      rw [hsw, sessionNotice_quiet hlast, capturePosts_waits hcw]
      rfl)

end Sys2Proof.Machine
end

section
/-!
The switch and the deferred capture at their headers, and the loss of lock (R20, R67 to R71, R74, R164, R167).
-/

namespace Sys2Proof.Machine
open Relation

/-! ### Which indices move -/

theorem countIndices_eq_zero_iff (p : SlotIx → Bool) : countIndices p = 0 ↔ ∀ i, ¬ p i = true := by
  simp [countIndices, List.countP_eq_zero]

theorem groupIn_iff (set : BitVec 5) (o : Option Nat) :
    groupIn set o = true ↔ ∃ g, o = some g ∧ set.getLsbD g = true := by
  cases o <;> simp [groupIn]

theorem moves_iff (m : MapUnit) (set : BitVec 5) (i : SlotIx) : moves m set i = true
    ↔ i.val < max m.live.length m.pendingMap.length
      ∧ groupIn set (if m.live.length ≤ i.val then some 4 else m.live.entries[i].group) = true
      ∧ groupIn set m.pendingMap.entries[i].group = true := by
  unfold moves tested liveOwner
  rw [Bool.and_eq_true, Bool.and_eq_true, decide_eq_true_eq, and_assoc]

theorem guardedIndex_iff (m : MapUnit) (set : BitVec 5) (g : Byte) (i : SlotIx) : guardedIndex m set g i = true
    ↔ moves m set i = true ∧ i.val < mergedLength m set ∧ g ≠ 0
      ∧ ∃ b, m.pendingMap.entries[i].branch = some b ∧ m.live.entries[i].branch ≠ some b := by
  unfold guardedIndex
  rw [Bool.and_eq_true, Bool.and_eq_true, Bool.and_eq_true, decide_eq_true_eq, decide_eq_true_eq, and_assoc, and_assoc]
  cases m.pendingMap.entries[i].branch <;> simp

/-! ### The switch fires -/

/-- A fired switch with an index to guard is GUARDING, and nothing is posted (R70). -/
theorem fireSwitch_guards {m : MapUnit} (h : guardedCount m m.switch.groups m.switch.guardLength ≠ 0) : fireSwitch m
    = ({ m with live := firedMap m m.switch.groups m.switch.guardLength
                switch := { m.switch with state := .guarding } }, []) := by
  unfold fireSwitch
  exact if_neg h

/-- A fired switch with no index to guard ends at once (R70). -/
theorem fireSwitch_ends {m : MapUnit} (h : guardedCount m m.switch.groups m.switch.guardLength = 0) : fireSwitch m
    = ({ m with live := firedMap m m.switch.groups m.switch.guardLength
                switch := endRecord m.switch .done .none }, [switchDonePost m.switch false]) := by
  unfold fireSwitch
  exact if_pos h

theorem fireSwitch_live (m : MapUnit) :
    (fireSwitch m).1.live = firedMap m m.switch.groups m.switch.guardLength := by
  by_cases h : guardedCount m m.switch.groups m.switch.guardLength = 0
  · rw [fireSwitch_ends h]
  · rw [fireSwitch_guards h]

/-- Settles O19: the indices by the moving rule and the guard test, and the two endings. -/
theorem switchFires : Obligations.SwitchFires := by
  rintro ch n s r inSet mv gd L' h rfl hs hn hin rfl hmv hgd
  have hinSet : ∀ o, inSet o ↔ groupIn s.mu.switch.groups o = true := fun o => (hin o).trans (groupIn_iff _ o).symm
  have hmoves : ∀ i, mv i ↔ moves s.mu s.mu.switch.groups i = true := fun i => by
    rw [hmv, moves_iff, hinSet, hinSet]
  have hguard : ∀ i, gd i ↔ guardedIndex s.mu s.mu.switch.groups s.mu.switch.guardLength i = true := fun i => by
    rw [hgd, guardedIndex_iff, hmoves]
    rfl
  have hexec : exec (.switchFire ch) s = .next (trunkStep ch s) :=
    congrArg Host.Outcome.next (trunkRow_due ((isSwitchFire_iff ch s).mpr ⟨h.ready, hs, hn ▸ h.notice⟩) ch s)
  obtain ⟨t, hstep, ht⟩ := h.leaves
  have hsw : switchNotice n false s.mu = fireSwitch (noted n s.mu) := switchNotice_fires hs hn
  have hmu : t.mu = (fireSwitch (noted n s.mu)).1 := ht.mu.trans (congrArg Prod.fst hsw)
  have hlive : t.mu.live = firedMap s.mu s.mu.switch.groups s.mu.switch.guardLength := by
    rw [hmu, fireSwitch_live]
    rfl
  have hsome : (∃ i, gd i) → fireSwitch (noted n s.mu) = _ := fun ⟨i, hi⟩ =>
    fireSwitch_guards fun h0 => (countIndices_eq_zero_iff _).mp h0 i ((hguard i).mp hi)
  have hnone : (∀ i, ¬ gd i) → fireSwitch (noted n s.mu) = _ := fun hno =>
    fireSwitch_ends ((countIndices_eq_zero_iff _).mpr fun i hi => hno i ((hguard i).mpr hi))
  have hlength : t.mu.live.length = mergedLength s.mu s.mu.switch.groups := by
    rw [hlive, firedMap]
  rw [hexec, hstep]
  refine ⟨_, rfl, hlength, ht.pendingMap, fun i hi => ?_, fun i hi hni => ?_, fun i hi => ?_, fun hg => ?_,
      fun hg => ?_,
    ?_, rfl, ht.bu, ht.sp, ht.pu, ht.pending, fun hlast => ⟨ht.me_lasts hlast, fun hcw => ⟨?_, fun hg => ?_,
        fun hg => ?_⟩⟩⟩
  · rw [State.withTrunk_mu, hlive, firedMap_entry, if_pos ((hguard i).mp hi)]
  · rw [State.withTrunk_mu, hlive, firedMap_entry, if_neg (fun hg => hni ((hguard i).mpr hg)), if_pos
      ((hmoves i).mp hi)]
  · rw [State.withTrunk_mu, hlive, firedMap_entry, if_neg (fun hg => hi ((hgd i).mp ((hguard i).mpr hg)).1),
      if_neg (fun hm => hi ((hmoves i).mpr hm))]
  · rw [State.withTrunk_mu, hmu, hsome hg]
    rfl
  · rw [State.withTrunk_mu, hmu, hnone hg]
    rfl
  · rw [State.withTrunk_ct, ht.ct, hlength]
    rfl
  · exact (ht.cb_waits hcw).trans (countAll_headerCounts_cb ch s.ct rfl)
  · exact (ht.posted_expected h.locked rfl).none (by
      rw [hsw, hsome hg, sessionNotice_quiet hlast, capturePosts_waits hcw]
      rfl)
  · exact (ht.posted_expected h.locked rfl).one (by
      rw [hsw, hnone hg, sessionNotice_quiet hlast, capturePosts_waits hcw]
      rfl)

/-! ### The deferred capture is taken -/

theorem countRacing_one (i : CounterIx) (act : State → State) (s : State) : countRacing [i] act s
    = if Config.freeBit s.freeCount then act (count i (s.withFreeCount (s.freeCount + 1)))
      else count i (act (s.withFreeCount (s.freeCount + 1))) := by
  unfold countRacing
  dsimp only [freeEarly, freeLate]
  split <;> rfl

/-- An expected header counts one damaged character or nothing (R3, R21, R28). -/
theorem headerCounts_eq (ch : TrunkBits) (c : CycleTracker) : headerCounts ch c
    = if classify ch = .damaged ∨ ((classify ch).isMarked = true ∧ c.coasting = false) then [cntDamaged] else [] := by
  unfold headerCounts damageCounts numberCounts
  have hmarked : ((!c.coasting && (classify ch).isMarked) = true)
      ↔ ((classify ch).isMarked = true ∧ c.coasting = false) := by simp [and_comm]
  by_cases hd : classify ch = .damaged
  · simp [hd, TrunkChar.isMarked]
  · simp [hd, hmarked]

theorem sessionNotice_node (m : Management) : (sessionNotice m).1.node = m.node := by
  unfold sessionNotice
  split
  · rfl
  · split <;> rfl

theorem captureNotice_due {n : Byte} {u : State} (h : captureDue u.cb n false = true) (is : List CounterIx) :
    (captureNotice n false is u).1 = disarmCapture (countRacing is snapshot u) := by
  unfold captureNotice
  rw [if_pos h]

/-- Settles O21: the snapshot and the count that races with it. -/
theorem deferredCaptureIsTaken : Obligations.DeferredCaptureIsTaken := by
  rintro ch n s clr inc h harmed hn hclr hinc
  have hexec : exec (.deferredCapture ch) s = .next (trunkStep ch s) :=
    congrArg Host.Outcome.next (trunkRow_due ((isDeferredCapture_iff ch s).mpr ⟨h.ready, harmed, hn ▸ h.notice⟩) ch s)
  have hposts : capturePosts s.cb n false = [{ kind := .captureDone, detail := [s.cb.capture.number + 1] }] :=
    hn ▸ capturePosts_due harmed
  have hdue : captureDue s.cb n false = true := by simp [captureDue, harmed, hn]
  obtain ⟨t, hstep, ht⟩ := h.leaves
  obtain ⟨u, hu, hcb, hcycle, hclear⟩ : ∃ u, noticed n false (numbered n s) = u ∧ u.cb = s.cb ∧ u.ct.cycle = some n
      ∧ u.me.node = s.me.node := ⟨_, rfl, rfl, rfl, sessionNotice_node s.me⟩
  have htcb : t.cb = (disarmCapture (countRacing (headerCounts ch s.ct) snapshot u)).cb := by
    rw [ht.cb, hu, captureNotice_due (by rw [hcb]; exact hdue)]
  obtain ⟨hdeferred, hnumber, hcapture, hvalues⟩ : t.cb.deferred = { armed := false, cycle := n }
      ∧ t.cb.capture.number = s.cb.capture.number + 1 ∧ t.cb.capture.cycle = some n
      ∧ ((t.cb.capture.values = inc s.cb.live ∧ t.cb.live = clr (inc s.cb.live))
          ∨ (t.cb.capture.values = s.cb.live ∧ t.cb.live = inc (clr s.cb.live))) := by
    rw [htcb, headerCounts_eq, ← hn]
    by_cases hcount : classify ch = .damaged ∨ ((classify ch).isMarked = true ∧ s.ct.coasting = false)
    · have hinc' : ∀ v, inc v = v.set 0 (satInc v[0]) := fun v => by rw [hinc, if_pos hcount, satInc_eq]
      rw [if_pos hcount, countRacing_one]
      split
      · refine ⟨?_, ?_, ?_, .inl ⟨?_, ?_⟩⟩ <;>
          simp [disarmCapture, snapshot, count, cntDamaged, hcb, hcycle, hclear, hn, hinc', hclr]
      · refine ⟨?_, ?_, ?_, .inr ⟨?_, ?_⟩⟩ <;>
          simp [disarmCapture, snapshot, count, cntDamaged, hcb, hcycle, hclear, hn, hinc', hclr]
    · have hinc' : ∀ v, inc v = v := fun v => by rw [hinc, if_neg hcount]
      rw [if_neg hcount]
      refine ⟨?_, ?_, ?_, .inl ⟨?_, ?_⟩⟩ <;>
        simp [countRacing, freeEarly, freeLate, countAll, disarmCapture, snapshot, hcb, hcycle, hclear, hn, hinc', hclr]
  rw [hexec, hstep]
  refine ⟨_, rfl, hdeferred, hnumber, hcapture, hvalues, ht.ct, rfl, ht.pendingMap, ht.bu, ht.sp, ht.pu, ht.pending,
    fun hlast => ⟨ht.me_lasts hlast, fun hsw => ⟨?_, ?_⟩⟩⟩
  · exact ht.mu.trans (congrArg Prod.fst (switchNotice_waits hsw))
  · exact (ht.posted_expected h.locked rfl).one (by
      rw [switchNotice_waits hsw, sessionNotice_quiet hlast, hposts]
      rfl)

/-! ### The loss of lock -/

theorem count_live (j i : CounterIx) (s : State) :
    (count j s).cb.live[i] = if i = j then satInc s.cb.live[i] else s.cb.live[i] := by
  simp only [count, State.withCb_cb, Fin.getElem_fin, Vector.getElem_set]
  by_cases h : i = j
  · simp [h]
  · have : ¬ j.val = i.val := fun he => h (Fin.ext he.symm)
    simp [h, this]

/-- Increments of different counters: each of them counts one, and no other counter changes (R163). -/
theorem countAll_live {is : List CounterIx} (h : is.Nodup) (i : CounterIx) (s : State) :
    (countAll is s).cb.live[i] = if i ∈ is then satInc s.cb.live[i] else s.cb.live[i] := by
  induction is generalizing s with
  | nil => rfl
  | cons j is ih =>
    obtain ⟨hj, his⟩ := List.nodup_cons.mp h
    have hstep : (countAll (j :: is) s).cb.live[i] = _ := ih his (count j s)
    rw [hstep, count_live]
    by_cases hij : i = j
    · simp [hij, hj]
    · simp [hij]

/-- The post CB makes at a loss of lock (R167). -/
def captureLostPosts (d : DeferredCapture) : List Post :=
  if d.armed then [{ kind := .captureAbandoned, detail := [0x02] }] else []

theorem captureLockLost_eq (s : State) : captureLockLost s
    = (s.withCb { s.cb with deferred := { s.cb.deferred with armed := false } }, captureLostPosts s.cb.deferred) := by
  unfold captureLockLost captureLostPosts
  cases ha : s.cb.deferred.armed with
  | true => rfl
  | false =>
    have hoff : { s.cb.deferred with armed := false } = s.cb.deferred := by rw [← ha]
    rw [hoff]
    rfl

theorem apart_flatten (ps : List Post) : (apart ps).flatten = ps := by
  induction ps with
  | nil => rfl
  | cons p ps ih => exact congrArg (p :: ·) ih

/-- The lock-lost notice at MU, CB and PU, and the posts of its instant, those of CT next to those of the switch (R20,
R74, R80, R156, R167). -/
theorem lockLostNotices_eq (posts others : List Post) (s : State) :
    ∃ q k, lockLostNotices posts others s
        = ((((s.withMu (switchLockLost s.mu).1).withCb
              { s.cb with deferred := { s.cb.deferred with armed := false } }).withPu
            (patternLockLost s.pu)).withFreeCount k).withEq q
      ∧ PostedAtOnce (cycleField s) (posts ++ (switchLockLost s.mu).2)
          (captureLostPosts s.cb.deferred ++ others) s.eq q := by
  obtain ⟨before, p, after, k, hp, hothers, h⟩ := postTogether_cons (posts ++ (switchLockLost s.mu).2)
    (captureLostPosts s.cb.deferred :: apart others)
    (((s.withMu (switchLockLost s.mu).1).withCb { s.cb with deferred := { s.cb.deferred with armed := false } }).withPu
      (patternLockLost s.pu))
  refine ⟨_, k, ?_, before, p, after, hp, ?_, rfl⟩
  · refine Eq.trans ?_ h
    unfold lockLostNotices
    simp only [captureLockLost_eq]
    rfl
  · rwa [List.flatten_cons, apart_flatten] at hothers

theorem damageCounts_nodup (ch : TrunkBits) (idle : Prop) [Decidable idle] :
    (damageCounts ch ++ [cntMisses, cntLockLosses] ++ if idle then [] else [cntFrameAborts]).Nodup := by
  unfold damageCounts
  by_cases hd : classify ch = .damaged <;> by_cases hi : idle <;>
    simp [hd, hi, cntDamaged, cntMisses, cntLockLosses, cntFrameAborts]

/-- The counters that a loss of lock advances (R19, R20, R28, R115). -/
theorem mem_lockLostCounts_iff (ch : TrunkBits) (s : State) (i : CounterIx) : i ∈ lockLostCounts s (damageCounts ch)
    ↔ i.val = 1 ∨ i.val = 2 ∨ (i.val = 7 ∧ s.sp.parser ≠ .idle) ∨ (i.val = 0 ∧ classify ch = .damaged) := by
  have hdamaged : i ∈ damageCounts ch ↔ i.val = 0 ∧ classify ch = .damaged := by
    unfold damageCounts
    rw [List.mem_ite_nil_right, List.mem_singleton, Fin.ext_iff, and_comm]
    rfl
  have haborted : i ∈ (if s.sp.parser = .idle then [] else [cntFrameAborts]) ↔ i.val = 7 ∧ s.sp.parser ≠ .idle := by
    rw [List.mem_ite_nil_left, List.mem_singleton, Fin.ext_iff, and_comm]
    rfl
  have hmiss : i = cntMisses ↔ i.val = 1 := Fin.ext_iff
  have hloss : i = cntLockLosses ↔ i.val = 2 := Fin.ext_iff
  unfold lockLostCounts
  rw [List.mem_append, List.mem_append, hdamaged, haborted, List.mem_cons, List.mem_singleton, hmiss, hloss, or_assoc,
      or_comm]
  simp only [or_assoc]

/-- The frame in passage after a loss of lock: a frame in progress is aborted (R115). -/
def frameLost (c : FrameContext) : FrameContext := if c.parser = .idle then c else endContext c

/-- A miss that reaches the limit, where no RESTART is carried out (R20). -/
theorem trunkStep_losesLock {ch : TrunkBits} {s : State} (hr : trunkReady s) (h : LosesLock ch s) :
    trunkStep ch s = (loseLock (damageCounts ch) s).withTrunk
      (trunkAnswered ch ((classify ch).forwarded s.me.node.fill)) := by
  obtain ⟨hl, hpos, hsync, hmiss⟩ := h
  rw [trunkStep_ready hr, trackerStep_locked hl, lockedStep, hpos]
  have hlost : missLosesLock s = true := decide_eq_true hmiss
  simp only [lockedSync, if_neg (fun h => hsync ((isSync_iff ch).mp h)), if_pos hlost]
  rfl

/-- Every block right after a loss of lock at which no RESTART is carried out (R20, R74, R80, R115, R156, R167). -/
structure LossLeaves (is : List CounterIx) (s t : State) : Prop where
  ct : t.ct = lockLostTracker s.ct
  mu : t.mu = (switchLockLost s.mu).1
  cb : t.cb = { (countAll (lockLostCounts s is) s).cb with deferred := { s.cb.deferred with armed := false } }
  pu : t.pu = patternLockLost s.pu
  sp : t.sp = frameLost s.sp
  me : t.me = s.me
  bu : t.bu = s.bu
  inReset : t.inReset = s.inReset
  pending : t.pending = s.pending
  posted : PostedAtOnce none (lockLostPost s.ct :: (switchLockLost s.mu).2) (captureLostPosts s.cb.deferred) s.eq t.eq

theorem loseLock_leaves {s : State} (h : restartAtLoss s = false) (is : List CounterIx) :
    LossLeaves is s (loseLock is s) := by
  obtain ⟨cb, hcb⟩ := countAll_eq (lockLostCounts s is) s
  have hdeferred : cb.deferred = s.cb.deferred := by
    have := (countAll_capture (lockLostCounts s is) s).2
    rwa [hcb] at this
  have heq : loseLock is s = lockLostNotices [lockLostPost s.ct] []
      (((s.withCb cb).withSp (frameLost s.sp)).withCt (lockLostTracker s.ct)) := by
    unfold loseLock frameLost
    rw [if_neg (by simp [h]), hcb]
    split <;> rfl
  obtain ⟨q, k, hq, hposted⟩ := lockLostNotices_eq [lockLostPost s.ct] []
    (((s.withCb cb).withSp (frameLost s.sp)).withCt (lockLostTracker s.ct))
  rw [heq, hq]
  refine ⟨rfl, rfl, ?_, rfl, rfl, rfl, rfl, rfl, rfl, ?_⟩
  · rw [hcb, ← hdeferred]
    rfl
  · refine hposted.congr rfl ?_
    rw [List.append_nil, ← hdeferred]
    rfl

/-- Settles O13: the counts, the aborted frame, and the lock-lost notice. -/
theorem lockIsLost : Obligations.LockIsLost := by
  intro ch s hr hl hpos hsync hmiss hno
  have hlose : LosesLock ch s := ⟨hl, hpos, hsync, hmiss⟩
  have hexec : exec (.lockLost ch) s = .next (trunkStep ch s) :=
    congrArg Host.Outcome.next (trunkRow_due ((isLockLost_iff ch s).mpr ⟨hr, hlose⟩) ch s)
  have hrestart : restartAtLoss s = false := by
    rw [Bool.eq_false_iff]
    intro h
    refine hno ?_
    simpa [restartAtLoss, and_assoc] using h
  have hcounts : (lockLostCounts s (damageCounts ch)).Nodup := damageCounts_nodup ch _
  obtain ⟨t, ht, hleaves⟩ : ∃ t, loseLock (damageCounts ch) s = t ∧ LossLeaves (damageCounts ch) s t :=
    ⟨_, rfl, loseLock_leaves hrestart _⟩
  rw [hexec, trunkStep_losesLock hr hlose, ht, trunkAnswered_forwarded]
  refine ⟨_, rfl, hleaves.ct, rfl, fun i => ?_, ?_, ?_, hleaves.sp, ?_, hleaves.me, hleaves.bu, hleaves.inReset,
    hleaves.pending, fun hs => ?_, fun hs => ?_, fun hs => ?_, hleaves.posted.congr ?_ rfl⟩
  · rw [State.withTrunk_cb, hleaves.cb, ← satInc_eq]
    exact (countAll_live hcounts i s).trans (if_congr (mem_lockLostCounts_iff ch s i) rfl rfl)
  · rw [State.withTrunk_cb, hleaves.cb]
    exact (countAll_capture _ s).1
  · rw [State.withTrunk_cb, hleaves.cb]
  · rw [State.withTrunk_pu, hleaves.pu, patternLockLost]
    cases hc : s.pu.checker <;> rfl
  · rw [State.withTrunk_mu, hleaves.mu, switchLockLost, hs]
  · rw [State.withTrunk_mu, hleaves.mu, switchLockLost, hs]
    rfl
  · have hmu : t.mu = completeGuard s.mu .lockLost := by rw [hleaves.mu, switchLockLost, hs]
    rw [State.withTrunk_mu, hmu]
    exact ⟨completeGuard_pendingMap _ _, completeGuard_length _ _, fun i => completeGuard_entry _ _ i, rfl⟩
  · unfold switchLockLost
    cases hs : s.mu.switch.state <;> rfl

end Sys2Proof.Machine
end

section
/-!
Slots of a locked cycle: those that touch no branch, and the drop and the insert half of a branch slot (R47 to R57, R59,
R87, R88, R93).
-/

namespace Sys2Proof.Machine
open Relation

theorem usable_eq_none_iff (c : TrunkChar) : usable c = none ↔ ∀ v, c ≠ .plain v := by
  cases c <;> simp [usable]

theorem usable_eq_some_iff (c : TrunkChar) (v : Byte) : usable c = some v ↔ c = .plain v := by
  cases c <;> simp [usable]

theorem slotCounted_usable {ch : TrunkBits} {v : Byte} (h : classify ch = .plain v) (s : State) :
    slotCounted ch s = s :=
  if_neg (by rw [h]; exact Option.some_ne_none v)

theorem slotCounted_withMu (ch : TrunkBits) (m : MapUnit) (s : State) :
    slotCounted ch (s.withMu m) = (slotCounted ch s).withMu m := by
  unfold slotCounted
  split <;> rfl

@[simp] theorem slotCounted_me (ch : TrunkBits) (s : State) : (slotCounted ch s).me = s.me :=
    (slotCounted_frame ch s).2.1
@[simp] theorem slotCounted_bu (ch : TrunkBits) (s : State) : (slotCounted ch s).bu = s.bu := (slotCounted_frame ch s).1

theorem fillByte_slotCounted (ch : TrunkBits) (s : State) : fillByte (slotCounted ch s) = s.me.node.fill :=
  congrArg (fun m : Management => m.node.fill) (slotCounted_me ch s)

theorem withBranch_self (s : State) (b : BranchNo) : s.withBranch b s.bu[b] = s := by
  simp [State.withBranch]

theorem withBranch_bu_of_ne (s : State) (x : Branch) {b c : BranchNo} (h : c ≠ b) : (s.withBranch b x).bu[c]
    = s.bu[c] := by
  have hval : b.val ≠ c.val := fun he => h (Fin.ext he.symm)
  simp [State.withBranch, hval]

/-! ### The insert half -/

/-- The byte an insert half takes from its branch (R55, R59). -/
def insertTaken (x : Branch) : Option Byte :=
  match x.enabled, x.side, x.insertQueue with
  | true, .flowing, v :: _ => some v
  | _, _, _ => none

/-- The branch after an insert half (R58, R59, R93). -/
def insertPopped (x : Branch) : Branch :=
  match x.enabled, x.side, x.insertQueue with
  | true, .flowing, _ :: rest => { x with insertQueue := rest, insertReported := x.insertReported && !rest.isEmpty }
  | true, .flowing, [] => { x with side := fillingSide x.config }
  | _, _, _ => x

/-- The increments of an insert half: a starved slot (R59). -/
def insertCounts (b : BranchNo) (x : Branch) : List CounterIx :=
  match x.enabled, x.side, x.insertQueue with
  | true, .flowing, [] => [cntStarved b]
  | _, _, _ => []

theorem insertHalf_eq {b : BranchNo} {s : State} {x : Branch} (hx : s.bu[b] = x) : insertHalf b s
    = (plainOut ((insertTaken x).getD (fillByte s)), (countAll (insertCounts b x) s).withBranch b
        (insertPopped x)) := by
  have hself : s.withBranch b x = s := hx ▸ withBranch_self s b
  obtain ⟨config, enabled, drops, inserts, sending, receiver, line, side, dropRep, insertRep⟩ := x
  unfold insertHalf popInsert insertTaken insertCounts insertPopped
  cases enabled with
  | false =>
    simp only [hx]
    exact Prod.ext rfl hself.symm
  | true =>
    cases side with
    | filling =>
      simp only [hx]
      exact Prod.ext rfl hself.symm
    | flowing =>
      cases inserts with
      | nil =>
        simp only [onBranch, count_bu, hx, if_true]
        rfl
      | cons v rest =>
        simp only [onBranch, hx, if_true]
        rfl

/-! ### The drop half -/

/-- A drop half has a byte to push, and its branch is enabled and its drop queue full (R87). -/
def discards (e : Option Byte) (x : Branch) : Bool := e.isSome && x.enabled && queueFull x.dropQueue

/-- The branch after a drop half (R52, R87, R93). -/
def dropPushed (e : Option Byte) (x : Branch) : Branch :=
  match e with
  | none => x
  | some v => if discards e x then { x with dropReported := true } else if x.enabled then storeDrop v x else x

/-- The increments of a drop half (R87). -/
def dropCounts (b : BranchNo) (e : Option Byte) (x : Branch) : List CounterIx :=
  if discards e x then [cntDropDiscards b] else []

/-- The posts of a drop half (R93). -/
def dropPosts (b : BranchNo) (e : Option Byte) (x : Branch) : List Post :=
  if discards e x && !x.dropReported then [{ kind := .dropOverrun, detail := [natByte b.val] }] else []

theorem dropHalf_eq (c : TrunkChar) {b : BranchNo} {s : State} {x : Branch} (hx : s.bu[b] = x) : dropHalf b c s
    = (postList (dropPosts b (usable c) x) (countAll (dropCounts b (usable c) x) s)).withBranch b
        (dropPushed (usable c) x) := by
  have hself : s.withBranch b x = s := hx ▸ withBranch_self s b
  obtain ⟨config, enabled, drops, inserts, sending, receiver, line, side, dropRep, insertRep⟩ := x
  unfold dropHalf pushDrop discardDrop dropPosts dropCounts dropPushed discards
  cases usable c with
  | none => exact hself.symm
  | some v =>
    cases enabled with
    | false =>
      simp only [hx]
      exact hself.symm
    | true =>
      cases hf : queueFull drops with
      | false =>
        simp only [onBranch, hx, hf]
        rfl
      | true =>
        cases dropRep with
        | false =>
          simp only [onBranch, post, State.withEq_bu, count_bu, hx, hf]
          rfl
        | true =>
          have hcount := withBranch_self (count (cntDropDiscards b) s) b
          rw [count_bu, hx] at hcount
          simp only [hx, hf]
          exact hcount.symm

theorem dropHalf_unusable {c : TrunkChar} (h : usable c = none) (b : BranchNo) (s : State) : dropHalf b c s = s := by
  unfold dropHalf
  rw [h]

/-! ### The obligations -/

/-- An entry that sends a usable character on (R48, R53). -/
def passes (e : Entry) : Prop := e = .pass ∨ ∃ b, e = .tap b

theorem insertHalf_disabled {b : BranchNo} {s : State} (h : s.bu[b].enabled = false) :
    insertHalf b s = (plainOut (fillByte s), s) := by
  unfold insertHalf
  exact if_neg (ne_true_of_eq_false h)

theorem dropHalf_disabled {b : BranchNo} {s : State} (h : s.bu[b].enabled = false) (c : TrunkChar) :
    dropHalf b c s = s := by
  cases hu : usable c with
  | none => exact dropHalf_unusable hu b s
  | some v =>
    unfold dropHalf
    rw [hu]
    exact if_neg (ne_true_of_eq_false h)

/-- A slot that is neither TEST nor SERVICE and whose branch, if it has one, is disabled (R48, R51 to R57). -/
theorem payloadSlot_idle {e : Entry} {s : State} (h : e = .pass ∨ e = .guard ∨ ∃ b, e.branch = some b
    ∧ s.bu[b].enabled = false)
    (c : TrunkChar) : ∃ out, payloadSlot e c s = (out, s) ∧ (passes e → out = passOut (fillByte s) c)
      ∧ (¬ passes e → out = plainOut (fillByte s)) := by
  have hpass : passes .pass := .inl rfl
  have htap : ∀ b, passes (.tap b) := fun b => .inr ⟨b, rfl⟩
  rcases h with rfl | rfl | ⟨b, hb, hoff⟩
  · exact ⟨_, rfl, fun _ => rfl, fun h => absurd hpass h⟩
  · exact ⟨_, rfl, fun h => by simp [passes] at h, fun _ => rfl⟩
  · cases e with
    | drop c' =>
      obtain rfl : c' = b := Option.some.inj hb
      exact ⟨_, Prod.ext rfl (dropHalf_disabled hoff c), fun h => by simp [passes] at h, fun _ => rfl⟩
    | tap c' =>
      obtain rfl : c' = b := Option.some.inj hb
      exact ⟨_, Prod.ext rfl (dropHalf_disabled hoff c), fun _ => rfl, fun h => absurd (htap _) h⟩
    | insert c' =>
      obtain rfl : c' = b := Option.some.inj hb
      exact ⟨_, insertHalf_disabled hoff, fun h => by simp [passes] at h, fun _ => rfl⟩
    | exchange c' =>
      obtain rfl : c' = b := Option.some.inj hb
      refine ⟨_, ?_, fun h => by simp [passes] at h, fun _ => rfl⟩
      rw [payloadSlot, dropHalf_disabled hoff, insertHalf_disabled hoff]
    | pass => simp [Entry.branch] at hb
    | test => simp [Entry.branch] at hb
    | guard => simp [Entry.branch] at hb
    | service => simp [Entry.branch] at hb

/-- Settles O22: the slots that touch no branch, and the SERVICE slot. -/
theorem slotsWithoutABranch : Obligations.SlotsWithoutABranch := by
  intro ch i e s hat
  refine ⟨fun h => ?_, fun he => ?_⟩
  · have hservice : e ≠ .service := by
      rintro rfl
      simp [Entry.branch] at h
    obtain ⟨out, hout, hpass, hfill⟩ := payloadSlot_idle (s := slotCounted ch s) (by rw [slotCounted_bu]; exact h)
        (classify ch)
    rw [fillByte_slotCounted] at hpass hfill
    refine ⟨out, ?_, fun v hv hp => ?_, fun hno => ?_⟩
    · rw [exec_payloadSlot hat hservice, hout]
    · rw [hpass hp, hv]
      rfl
    · by_cases hp : passes e
      · have hnone : usable (classify ch) = none := (usable_eq_none_iff _).mpr fun v hv => hno v hv hp
        rw [hpass hp, passOut, hnone]
        rfl
      · exact hfill hp
  · rw [exec_slot hat]
    unfold slotStep
    rw [hat.entry, if_pos he]

/-- An INSERT slot, by its branch (R55, R59). -/
theorem exec_insertSlot {ch : TrunkBits} {i : SlotIx} {b : BranchNo} {s : State} (h : AtSlot i (.insert b) s) :
    exec (.trunkCharacterReceived ch) s = .next
      (slotAnswered i ch { mark := false, data := (insertTaken s.bu[b]).getD s.me.node.fill }
        ((countAll (insertCounts b s.bu[b]) (slotCounted ch s)).withBranch b (insertPopped s.bu[b]))) := by
  have hbu : (slotCounted ch s).bu[b] = s.bu[b] := by rw [slotCounted_bu]
  rw [exec_payloadSlot h (by simp), payloadSlot, insertHalf_eq hbu, fillByte_slotCounted]
  rfl

/-- Settles O23: the byte taken, the branch left and the count, in the three cases. -/
theorem insertSlotTakesTheOldestByte : Obligations.InsertSlotTakesTheOldestByte := by
  rintro ch i b s x fill hat hx hon rfl
  rw [exec_insertSlot hat, ← hx]
  obtain ⟨config, enabled, drops, inserts, sending, receiver, line, side, dropRep, insertRep⟩ := x
  obtain rfl : enabled = true := hon
  refine ⟨fun hs => ?_, fun v rest hs hq => ?_, fun hs hq => ?_⟩
  · obtain rfl : side = .filling := hs
    have hself := withBranch_self (slotCounted ch s) b
    rw [slotCounted_bu, ← hx] at hself
    exact congrArg (fun t => Host.Outcome.next (slotAnswered i ch _ t)) hself
  · obtain rfl : side = .flowing := hs
    obtain rfl : inserts = v :: rest := hq
    rfl
  · obtain rfl : side = .flowing := hs
    obtain rfl : inserts = [] := hq
    rfl

theorem storeDrop_sending {x : Branch} (h : x.sending.isSome = true) (v : Byte) :
    storeDrop v x = { x with dropQueue := x.dropQueue ++ [v] } := by
  obtain ⟨w, hw⟩ := Option.isSome_iff_exists.mp h
  cases x
  cases hw
  rfl

/-- A push on an IDLE transmitter over an empty queue is taken at once (R87, R88). -/
theorem storeDrop_idle {x : Branch} (hq : x.dropQueue = []) (hs : x.sending = none) (v : Byte) :
    storeDrop v x = { x with sending := some v, dropReported := false } := by
  simp [storeDrop, popDrop, hq, hs]

/-- What a push leaves on an enabled branch whose queue has room, and on one whose queue is full (R87, R93). -/
theorem dropHalf_room {c : TrunkChar} {v : Byte} {b : BranchNo} {s : State} (h : usable c = some v)
    (hon : s.bu[b].enabled = true) (hroom : s.bu[b].dropQueue.length < 32) :
    dropHalf b c s = s.withBranch b (storeDrop v s.bu[b]) := by
  have hno : discards (some v) s.bu[b] = false := by
    unfold discards queueFull
    rw [decide_eq_false (Nat.not_le.mpr hroom), Bool.and_false]
  rw [dropHalf_eq c rfl, h, dropPosts, dropCounts, dropPushed, hno, hon]
  rfl

theorem dropHalf_full {c : TrunkChar} {v : Byte} {b : BranchNo} {s : State} (h : usable c = some v)
    (hon : s.bu[b].enabled = true) (hfull : 32 ≤ s.bu[b].dropQueue.length) :
    dropHalf b c s = if s.bu[b].dropReported then count (cntDropDiscards b) s
      else (post { kind := .dropOverrun, detail := [natByte b.val] } (count (cntDropDiscards b) s)).withBranch b
        { s.bu[b] with dropReported := true } := by
  have hyes : discards (some v) s.bu[b] = true := by
    unfold discards queueFull
    rw [hon, decide_eq_true hfull]
    rfl
  rw [dropHalf_eq c rfl, h, dropPosts, dropCounts, dropPushed, hyes]
  cases hr : s.bu[b].dropReported with
  | false => rfl
  | true =>
    have hsame : { s.bu[b] with dropReported := true } = s.bu[b] := by rw [← hr]
    rw [if_pos rfl, if_pos rfl, hsame]
    exact withBranch_self (count (cntDropDiscards b) s) b

theorem exec_dropSlot {ch : TrunkBits} {i : SlotIx} {b : BranchNo} {e : Entry} {s : State} (h : AtSlot i e s)
    (he : e = .drop b ∨ e = .tap b) : exec (.trunkCharacterReceived ch) s = .next
      (slotAnswered i ch
        { mark := false, data := if e = .tap b then (usable (classify ch)).getD s.me.node.fill else s.me.node.fill }
        (dropHalf b (classify ch) (slotCounted ch s))) := by
  rcases he with rfl | rfl
  · rw [exec_payloadSlot h (by simp), payloadSlot, fillByte_slotCounted, if_neg (by simp)]
    rfl
  · rw [exec_payloadSlot h (by simp), payloadSlot, fillByte_slotCounted, if_pos rfl]
    rfl

/-- Settles O24: the push refused, taken or discarded. -/
theorem dropAndTapSlotsPush : Obligations.DropAndTapSlotsPush := by
  rintro ch i b e s x hat he rfl hon
  rw [exec_dropSlot hat he]
  refine ⟨fun hno => ?_, fun v out hv hout => ?_⟩
  · rw [dropHalf_unusable hno, hno, Option.getD_none, ite_self]
  · have hu : usable (classify ch) = some v := (usable_eq_some_iff _ v).mpr hv
    rw [slotCounted_usable hv, hu, Option.getD_some, ← hout]
    refine ⟨fun hroom hs => ?_, fun hq hs => ?_, fun hfull => ?_⟩
    · rw [dropHalf_room hu hon hroom, storeDrop_sending hs]
    · rw [dropHalf_room hu hon (by rw [hq]; decide), storeDrop_idle hq hs]
    · have hfield : cycleField (count (cntDropDiscards b) s) = s.ct.cycle := if_pos hat.locked
      rw [dropHalf_full hu hon hfull, post, hfield]
      rfl

/-! ### Both halves -/

/-- Two branches agree on what an insert half looks at. -/
structure SameInsertSide (x y : Branch) : Prop where
  enabled : y.enabled = x.enabled
  side : y.side = x.side
  queue : y.insertQueue = x.insertQueue
  reported : y.insertReported = x.insertReported
  config : y.config = x.config

theorem dropPushed_insertSide (e : Option Byte) (x : Branch) : SameInsertSide x (dropPushed e x) := by
  have hpop : ∀ y : Branch, SameInsertSide y (popDrop y) := fun y => by
    unfold popDrop
    split <;> exact ⟨rfl, rfl, rfl, rfl, rfl⟩
  have hstore : ∀ v, SameInsertSide x (storeDrop v x) := fun v => by
    unfold storeDrop
    split
    · obtain ⟨h1, h2, h3, h4, h5⟩ := hpop { x with dropQueue := x.dropQueue ++ [v] }
      exact ⟨h1, h2, h3, h4, h5⟩
    · exact ⟨rfl, rfl, rfl, rfl, rfl⟩
  unfold dropPushed
  split
  · exact ⟨rfl, rfl, rfl, rfl, rfl⟩
  · split
    · exact ⟨rfl, rfl, rfl, rfl, rfl⟩
    · split
      · exact hstore _
      · exact ⟨rfl, rfl, rfl, rfl, rfl⟩

/-- An insert half looks at the insert side and the configuration alone, and writes the insert side alone (R55, R59). -/
theorem SameInsertSide.insertHalf {x y : Branch} (h : SameInsertSide x y) (b : BranchNo) :
    insertTaken y = insertTaken x ∧ insertCounts b y = insertCounts b x
      ∧ insertPopped y = { y with insertQueue := (insertPopped x).insertQueue, side := (insertPopped x).side
                                  insertReported := (insertPopped x).insertReported } := by
  obtain ⟨config, enabled, drops, inserts, sending, receiver, line, side, dropRep, insertRep⟩ := x
  obtain ⟨config', enabled', drops', inserts', sending', receiver', line', side', dropRep', insertRep'⟩ := y
  obtain ⟨he, hs, hq, hr, hc⟩ := h
  dsimp only at he hs hq hr hc
  subst he hs hq hr hc
  cases enabled' with
  | false => exact ⟨rfl, rfl, rfl⟩
  | true =>
    cases side' with
    | filling => exact ⟨rfl, rfl, rfl⟩
    | flowing => cases inserts' <;> exact ⟨rfl, rfl, rfl⟩

/-- The state with slot i's Live entry another one. -/
abbrev withSlot (i : SlotIx) (e : Entry) (s : State) : State :=
  s.withMu { s.mu with live := { s.mu.live with entries := s.mu.live.entries.set i e } }

theorem atSlot_withSlot {i : SlotIx} {e e' : Entry} {s : State} (h : AtSlot i e s) : AtSlot i e' (withSlot i e' s) :=
  ⟨h.ready, h.locked, h.position, by simp⟩

theorem insertCounts_subset (b : BranchNo) (x : Branch) : insertCounts b x = []
    ∨ insertCounts b x = [cntStarved b] := by
  unfold insertCounts
  split
  · exact .inr rfl
  · exact .inl rfl

theorem insertCounts_mem {b : BranchNo} {x : Branch} {k : CounterIx} (h : k ∈ insertCounts b x) : k = cntStarved b := by
  rcases insertCounts_subset b x with hc | hc <;> simp_all

theorem dropCounts_mem {b : BranchNo} {e : Option Byte} {x : Branch} {k : CounterIx} (h : k ∈ dropCounts b e x) :
    k = cntDropDiscards b := by
  unfold dropCounts at h
  split at h <;> simp_all

theorem insertCounts_nodup (b : BranchNo) (x : Branch) : (insertCounts b x).Nodup := by
  rcases insertCounts_subset b x with h | h <;> simp [h]

theorem dropCounts_nodup (b : BranchNo) (e : Option Byte) (x : Branch) : (dropCounts b e x).Nodup := by
  unfold dropCounts
  split <;> simp

theorem slotCounted_eq (ch : TrunkBits) (s : State) : ∃ c, slotCounted ch s = s.withCb c := by
  unfold slotCounted
  split
  · exact ⟨_, rfl⟩
  · exact ⟨s.cb, rfl⟩

/-- Increments write the counters alone, and by the counters alone. -/
theorem countAll_of_cb (is : List CounterIx) {s t : State} (h : t.cb = s.cb) :
    countAll is t = t.withCb (countAll is s).cb := by
  induction is generalizing s t with
  | nil =>
    change t = t.withCb s.cb
    rw [← h]
    rfl
  | cons i is ih =>
    have hcount : (count i t).cb = (count i s).cb := by
      unfold count
      rw [h]
      rfl
    exact ih hcount

/-- Settles O25: the explicit form of each half. -/
theorem exchangeMakesBothHalves : Obligations.ExchangeMakesBothHalves := by
  intro ch i b s withEntry hat hwith
  obtain ⟨x, hx⟩ : ∃ x, s.bu[b] = x := ⟨_, rfl⟩
  obtain ⟨e, he⟩ : ∃ e, usable (classify ch) = e := ⟨_, rfl⟩
  obtain ⟨c, hc⟩ := slotCounted_eq ch s
  obtain ⟨u, hu⟩ : ∃ u, s.withCb c = u := ⟨_, rfl⟩
  obtain ⟨d, hd⟩ : ∃ d, countAll (dropCounts b e x) u = d := ⟨_, rfl⟩
  obtain ⟨m, hm⟩ : ∃ m, countAll (insertCounts b x) d = m := ⟨_, rfl⟩
  obtain ⟨n, hn⟩ : ∃ n, countAll (insertCounts b x) u = n := ⟨_, rfl⟩
  obtain ⟨q, hq⟩ : ∃ q, (dropPosts b e x).foldl (fun q p => postTo q (cycleField s) p) s.eq = q := ⟨_, rfl⟩
  have hslot : ∀ v, slotCounted ch (s.withMu v) = (s.withCb c).withMu v := fun v => by rw [slotCounted_withMu, hc]
  obtain ⟨htaken, hcounts, hpopped⟩ := (dropPushed_insertSide e x).insertHalf b
  have hD : ∀ v : State, v.cb = c → countAll (dropCounts b e x) v = v.withCb d.cb := fun v hv =>
    hd ▸ countAll_of_cb _ (hv.trans (hu ▸ rfl))
  have hM : ∀ v : State, v.cb = d.cb → countAll (insertCounts b x) v = v.withCb m.cb := fun v hv =>
    hm ▸ countAll_of_cb _ hv
  have hN : ∀ v : State, v.cb = c → countAll (insertCounts b x) v = v.withCb n.cb := fun v hv =>
    hn ▸ countAll_of_cb _ (hv.trans (hu ▸ rfl))
  have hW : ∀ v : State, ((v.withBranch b (dropPushed e x)).withCb m.cb).withBranch b (insertPopped (dropPushed e x))
      = (v.withCb m.cb).withBranch b (insertPopped (dropPushed e x)) := fun v => withBranch_withBranch
          (v.withCb m.cb) b _ _
  have hboth : exec (.trunkCharacterReceived ch) s = .next (slotAnswered i ch
      { mark := false, data := (insertTaken x).getD s.me.node.fill }
      (((s.withCb m.cb).withEq q).withBranch b (insertPopped (dropPushed e x)))) := by
    rw [exec_payloadSlot hat (by simp), payloadSlot, hc, dropHalf_eq (s := s.withCb c) (x := x) (classify ch) hx, he,
      hD _ rfl, postList_eq, insertHalf_eq (withBranch_self_bu _ _ _), htaken, hcounts, hM, hW, ← hq]
    · rfl
    · rfl
  have hdrop : exec (.trunkCharacterReceived ch) (withSlot i (.drop b) s) = .next (slotAnswered i ch
      { mark := false, data := s.me.node.fill }
      ((((withSlot i (.drop b) s).withCb d.cb).withEq q).withBranch b (dropPushed e x))) := by
    rw [exec_payloadSlot (atSlot_withSlot hat) (by simp), payloadSlot, hslot,
      dropHalf_eq (s := (s.withCb c).withMu _) (x := x) (classify ch) hx, he, hD _ rfl,
      postList_eq, ← hq]
    rfl
  have hx' : (withSlot i (.insert b) s).bu[b] = x := hx
  have hinsert : exec (.trunkCharacterReceived ch) (withSlot i (.insert b) s) = .next (slotAnswered i ch
      { mark := false, data := (insertTaken x).getD s.me.node.fill }
      (((withSlot i (.insert b) s).withCb n.cb).withBranch b (insertPopped x))) := by
    rw [exec_insertSlot (atSlot_withSlot hat), hslot, hx', hN _ rfl]
    rfl
  have hbu : ∀ (o : OutChar) (v : State) (w : Branch), (slotAnswered i ch o (v.withBranch b w)).bu[b] = w :=
    fun _ v w => withBranch_self_bu v b w
  have hdLive := fun k => hd ▸ countAll_live (dropCounts_nodup b e x) k u
  have hmLive := fun k => hm ▸ countAll_live (insertCounts_nodup b x) k d
  have hnLive := fun k => hn ▸ countAll_live (insertCounts_nodup b x) k u
  have hstarvedDrop : cntStarved b ∉ dropCounts b e x := fun h => by
    have := dropCounts_mem h
    simp [cntStarved, cntDropDiscards] at this
  have hdropStarved : cntDropDiscards b ∉ insertCounts b x := fun h => by
    have := insertCounts_mem h
    simp [cntStarved, cntDropDiscards] at this
  refine ⟨_, _, _, hboth, (congrArg (exec _) (hwith _)).trans hdrop,
    (congrArg (exec _) (hwith _)).trans hinsert, rfl, rfl, rfl, rfl, rfl, rfl, rfl, ?_,
    fun c' hne => ?_, ?_, ?_, fun k hnd hns => ?_⟩
  · simp only [hbu, hpopped]
  · exact withBranch_bu_of_ne _ _ hne
  · exact (hmLive _).trans (if_neg hdropStarved)
  · exact (hmLive _).trans ((if_congr Iff.rfl (by rw [hdLive, if_neg hstarvedDrop]) (by rw [hdLive,
      if_neg hstarvedDrop])).trans
      (hnLive _).symm)
  · exact (hmLive k).trans (if_neg fun h => hns (insertCounts_mem h))

end Sys2Proof.Machine
end

section
/-!
The TEST slot: the generator, the checker's judgement, the resync and the end of a timed run (R50, R151, R152, R155,
R157). -/

namespace Sys2Proof.Machine
open Relation

/-! ### What an element leaves -/

theorem seekElement_generator (p : PatternUnit) (e : Option Byte) :
    (seekElement p e).config = p.config ∧ (seekElement p e).generator = p.generator := by
  cases e with
  | none => exact ⟨rfl, rfl⟩
  | some v =>
    have hload : ∀ a b, (loadSeeds p a b).config = p.config ∧ (loadSeeds p a b).generator = p.generator := fun a b => by
      unfold loadSeeds
      split <;> exact ⟨rfl, rfl⟩
    have hprbs : (seekPrbs p v).config = p.config ∧ (seekPrbs p v).generator = p.generator := by
      unfold seekPrbs
      split
      · exact hload _ _
      · exact ⟨rfl, rfl⟩
      · split
        split
        · exact ⟨rfl, rfl⟩
        · exact hload _ _
      · exact ⟨rfl, rfl⟩
    have hbyte : ∀ take : PatternUnit → Byte → PatternUnit,
        (take p v).config = p.config ∧ (take p v).generator = p.generator →
        (seekByte take p v).config = p.config ∧ (seekByte take p v).generator = p.generator := fun take htake => by
      unfold seekByte
      split
      · split
        split
        · exact ⟨rfl, rfl⟩
        · exact htake
      · exact htake
    have halign : (alignWord p v).config = p.config ∧ (alignWord p v).generator = p.generator := by
      unfold alignWord
      split
      · exact ⟨rfl, rfl⟩
      · split <;> exact ⟨rfl, rfl⟩
    unfold seekElement
    cases p.config.checkerPattern with
    | prbs9 => exact hprbs
    | prbs15 => exact hprbs
    | count => exact hbyte seedCount ⟨rfl, rfl⟩
    | word => exact hbyte alignWord halign

/-- The checker takes its element without a look at the generator (R151, R152). -/
theorem checkElement_generator (p : PatternUnit) (e : Option Byte) :
    (checkElement p e).1.config = p.config ∧ (checkElement p e).1.generator = p.generator := by
  unfold checkElement
  cases p.checker with
  | off => exact ⟨rfl, rfl⟩
  | seek => exact seekElement_generator p e
  | locked =>
    unfold judgeElement
    cases p.checkerRegister with
    | none => exact ⟨rfl, rfl⟩
    | some r =>
      dsimp only
      split <;> split <;> exact ⟨rfl, rfl⟩

/-- The generator moved on, where it is ON (R151). -/
def generated (p q : PatternUnit) : PatternUnit :=
  { q with generator := if p.config.generatorOn then (nextByte p.config.word p.generator).2 else p.generator }

/-- The byte a TEST slot sends (R50, R151). -/
def testByte (p : PatternUnit) (e : Option Byte) (fill : Byte) : Byte :=
  if p.config.generatorOn then (nextByte p.config.word p.generator).1 else e.getD fill

theorem generate_eq {p q : PatternUnit} (hconfig : q.config = p.config) (hgen : q.generator = p.generator) : generate q
    = (if p.config.generatorOn then some (nextByte p.config.word p.generator).1 else none, generated p q) := by
  unfold generate generated
  rw [← hconfig, ← hgen]
  cases q.config.generatorOn <;> rfl

/-- A TEST slot, by what the checker makes of its element (R50, R151, R152). -/
theorem exec_testSlot {ch : TrunkBits} {i : SlotIx} {s : State} {q : PatternUnit} {ps : List Post}
    (h : AtSlot i .test s)
    (hq : checkElement s.pu (usable (classify ch)) = (q, ps)) :
    exec (.trunkCharacterReceived ch) s = .next
      (slotAnswered i ch { mark := false, data := testByte s.pu (usable (classify ch)) s.me.node.fill }
        (postList ps ((slotCounted ch s).withPu (generated s.pu q)))) := by
  have hpu : (slotCounted ch s).pu = s.pu := (slotCounted_frame ch s).2.2.2.1
  obtain ⟨hconfig, hgen⟩ : q.config = s.pu.config ∧ q.generator = s.pu.generator := by
    have := checkElement_generator s.pu (usable (classify ch))
    rwa [hq] at this
  rw [exec_payloadSlot h (by simp), payloadSlot, testSlot, hpu, hq, fillByte_slotCounted]
  simp only [generate_eq hconfig hgen]
  unfold testByte
  cases s.pu.config.generatorOn <;> rfl

/-! ### The judgement -/

theorem satInc_if {P : Prop} [Decidable P] (w : Word16) :
    (if P then satInc w else w) = if P ∧ w ≠ 0xFFFF then w + 1 else w := by
  unfold satInc
  by_cases hp : P <;> by_cases hw : w = 0xFFFF <;> simp [hp, hw]

theorem satIncByte_if {P : Prop} [Decidable P] (w : Byte) :
    (if P then satIncByte w else w) = if P ∧ w ≠ 0xFF then w + 1 else w := by
  unfold satIncByte
  by_cases hp : P <;> by_cases hw : w = 0xFF <;> simp [hp, hw]

/-- A judged element, with its mismatch and the run's state as they are given (R155). -/
theorem judged_eq {p : PatternUnit} {r : PatternRegister} {e : Option Byte} {mm run : Bool}
    (hmm : mm = true ↔ e ≠ some (nextByte p.config.word r).1) (hrun : run = true ↔ p.run = .running) :
    judged p r e = { p with
      checkerRegister := some (nextByte p.config.word r).2
      window := slideWindow p.window mm
      checked := if run = true ∧ p.checked ≠ 0xFFFF then p.checked + 1 else p.checked
      errors := if run = true ∧ mm = true ∧ p.errors ≠ 0xFFFF then p.errors + 1 else p.errors } := by
  have hmis : isMismatch p.config.word r e = mm := by
    unfold isMismatch
    cases hm : mm with
    | true => exact decide_eq_true (hmm.mp hm)
    | false => exact decide_eq_false fun h => by simp [hmm.mpr h] at hm
  unfold judged
  simp only [hmis, satInc_if, ← hrun, and_assoc]

/-- The checker locked on a register judges its element; where the window does not reach the threshold and no timed run
is completed, nothing more is done (R155). -/
theorem checkElement_judged {p : PatternUnit} {r : PatternRegister} {e : Option Byte} (hlock : p.checker = .locked)
    (hreg : p.checkerRegister = some r) (hno : resyncDue (judged p r e) = false)
    (hlen : lengthReached (judged p r e) = false) : checkElement p e = (judged p r e, []) := by
  unfold checkElement judgeElement
  simp [hlock, hreg, hno, hlen]

theorem checkElement_resyncs {p : PatternUnit} {r : PatternRegister} {e : Option Byte} (hlock : p.checker = .locked)
    (hreg : p.checkerRegister = some r) (hdue : resyncDue (judged p r e) = true)
    (hlen : lengthReached (judged p r e) = false) : checkElement p e = (resync (judged p r e), []) := by
  have hlen' : lengthReached (resync (judged p r e)) = false := hlen
  unfold checkElement judgeElement
  simp [hlock, hreg, hdue, hlen']

/-- The element that completes a timed run (R157). -/
theorem checkElement_completes {p : PatternUnit} {r : PatternRegister} {e : Option Byte} {q : PatternUnit}
    (hlock : p.checker = .locked) (hreg : p.checkerRegister = some r) (hlen : lengthReached (judged p r e) = true)
    (hq : (if resyncDue (judged p r e) then resync (judged p r e) else judged p r e) = q) :
    checkElement p e = ({ q with run := .done }, [testDonePost q]) := by
  have hlen' : lengthReached q = true := by
    rw [← hq]
    split
    · exact hlen
    · exact hlen
  unfold checkElement judgeElement
  simp only [hlock, hreg, hq, hlen', if_true]

/-- The run of a judged element is not completed (R157). -/
theorem lengthReached_judged (p : PatternUnit) (r : PatternRegister) (e : Option Byte) : lengthReached (judged p r e)
    = true
    ↔ p.run = .running ∧ p.mode = .timed ∧ satInc p.checked = p.runLength.elements := by
  unfold lengthReached judged
  rw [decide_eq_true_eq]
  refine and_congr_right fun hrun => ?_
  simp only [if_pos hrun]

theorem resyncDue_judged {p : PatternUnit} {r : PatternRegister} {e : Option Byte} {mm : Bool}
    (hmm : mm = true ↔ e ≠ some (nextByte p.config.word r).1) : resyncDue (judged p r e) = true
    ↔ windowMismatches (slideWindow p.window mm) = p.config.threshold := by
  have hw : (judged p r e).window = slideWindow p.window mm := by
    rw [judged_eq hmm (run := decide (p.run = .running)) (by simp)]
  unfold resyncDue
  rw [decide_eq_true_eq, hw]
  rfl

/-! ### The obligations -/

/-- Settles O26: the checker OFF, in SEEK, and LOCKED where neither a resync nor the end of a run is due. -/
theorem testSlotGeneratesAndChecks : Obligations.TestSlotGeneratesAndChecks := by
  rintro ch i s p el ans hat rfl rfl hans
  have hslot : ∀ q, checkElement s.pu (usable (classify ch)) = (q, []) → q.generator = s.pu.generator →
      exec (.trunkCharacterReceived ch) s = .next (ans q) := fun q hq hgen => by
    rw [exec_testSlot hat hq, hans]
    unfold testByte generated
    cases s.pu.config.generatorOn with
    | true => rfl
    | false =>
      rw [← hgen]
      rfl
  refine ⟨fun hoff => ?_, fun hseek => ?_, fun r mm run hlock hreg hmm hrun hno hlen => ?_⟩
  · exact hslot _ (by rw [checkElement, hoff]) rfl
  · exact hslot _ (by rw [checkElement, hseek]) (seekElement_generator _ _).2
  · rw [← judged_eq hmm hrun]
    refine hslot _ (checkElement_judged hlock hreg ?_ ?_) rfl
    · exact Bool.eq_false_iff.mpr fun h => hno ((resyncDue_judged hmm).mp h)
    · exact Bool.eq_false_iff.mpr fun h =>
        hlen (((lengthReached_judged _ _ _).mp h).imp hrun.mpr id)

/-- Settles O28: the judgement, then the resync. -/
theorem checkerResyncs : Obligations.CheckerResyncs := by
  intro ch i s r mm run hat hlock hreg hmm hthreshold hrun hlen
  have hdue := (resyncDue_judged hmm).mpr hthreshold
  have hexec : exec (.checkerResync ch) s = exec (.trunkCharacterReceived ch) s := by
    have hjudged : IsJudged (judged s.pu r (usable (classify ch))) ch s := ⟨i, r, hat, hlock, hreg, rfl⟩
    exact congrArg Host.Outcome.next (trunkRow_due ((isCheckerResync_iff ch s).mpr
      ⟨hat.ready, _, hjudged, of_decide_eq_true hdue⟩) ch s)
  have hlen' : lengthReached (judged s.pu r (usable (classify ch))) = false := Bool.eq_false_iff.mpr fun h =>
    hlen (((lengthReached_judged _ _ _).mp h).imp hrun.mp id)
  rw [hexec, exec_testSlot hat (checkElement_resyncs hlock hreg hdue hlen'), judged_eq hmm hrun.symm]
  unfold resync generated testByte toSeek
  simp only [satIncByte_if, hrun]
  rfl

/-- A checked count one below a run's length is not at its end (R157). -/
theorem checked_succ {w : Word16} {l : RunLength}
    (h : w.toNat + 1 = match l with | .len256 => 256 | .len4096 => 4096 | .len65535 => 65535) :
    w ≠ 0xFFFF ∧ w + 1 = l.elements := by
  have hlt : w.toNat + 1 ≤ 65535 := by
    rw [h]
    cases l <;> decide
  refine ⟨?_, BitVec.eq_of_toNat_eq ?_⟩
  · rintro rfl
    simp at hlt
  · have hsum : (w + 1).toNat = w.toNat + 1 := by
      rw [BitVec.toNat_add, show (1 : Word16).toNat = 1 from rfl, Nat.mod_eq_of_lt (by omega)]
    rw [hsum, h]
    cases l <;> rfl

/-- Settles O29: the judgement, the resync it may bring, and the end of the run. -/
theorem timedRunCompletes : Obligations.TimedRunCompletes := by
  rintro ch i s r mm rs p done hat rfl hlock hreg hrun hmode hchecked hmm hrs hdone
  obtain ⟨hbelow, hnext⟩ := checked_succ hchecked
  have hinc : satInc s.pu.checked = s.pu.checked + 1 := if_neg hbelow
  have hlen : lengthReached (judged s.pu r (usable (classify ch))) = true :=
    (lengthReached_judged _ _ _).mpr ⟨hrun, hmode, hinc.trans hnext⟩
  have hexec : exec (.testDone ch) s = exec (.trunkCharacterReceived ch) s := by
    have hjudged : IsJudged (judged s.pu r (usable (classify ch))) ch s := ⟨i, r, hat, hlock, hreg, rfl⟩
    refine congrArg Host.Outcome.next (trunkRow_due ((isTestDone_iff ch s).mpr
      ⟨hat.ready, _, hjudged, hrun, hmode, ?_⟩) ch s)
    exact (of_decide_eq_true hlen).2.2
  obtain ⟨q, hq⟩ : ∃ q, (if resyncDue (judged s.pu r (usable (classify ch))) then
      resync (judged s.pu r (usable (classify ch))) else judged s.pu r (usable (classify ch))) = q := ⟨_, rfl⟩
  have hleft : generated s.pu { q with run := .done } = done := by
    have hresync : resyncDue (judged s.pu r (usable (classify ch))) = rs := by
      rw [Bool.eq_iff_iff, resyncDue_judged hmm, hrs]
    rw [← hq, hresync, judged_eq hmm (run := true) (by simp [hrun]), hdone]
    have hcount : (if s.pu.checked ≠ 0xFFFF then s.pu.checked + 1 else s.pu.checked) = s.pu.checked + 1 := if_pos hbelow
    have hresyncs : satIncByte s.pu.resyncs = if s.pu.resyncs ≠ 0xFF then s.pu.resyncs + 1 else s.pu.resyncs := by
      rw [satIncByte, ite_not]
    unfold generated resync toSeek
    cases rs with
    | true => simp only [hcount, hresyncs, hrun, true_and, if_true]
    | false => simp only [hcount, hlock, true_and, false_and, if_false, Bool.false_eq_true]
  have hfield : cycleField s = s.ct.cycle := if_pos hat.locked
  rw [hexec, exec_testSlot hat (checkElement_completes hlock hreg hlen hq), hleft]
  have hpost : testDonePost q = testDonePost done := by
    rw [← hleft]
    rfl
  obtain ⟨c, hc⟩ := slotCounted_eq ch s
  rw [hpost, hc, postList_eq]
  refine congrArg (fun f => Host.Outcome.next ((slotAnswered i ch _ ((s.withCb c).withPu done)).withEq
    (postTo s.eq f (testDonePost done)))) hfield

end Sys2Proof.Machine
end

section
/-!
A seeking checker: the feedback register, and what each element in SEEK does (R149, R150, R153, R154).
-/

namespace Sys2Proof.Machine

/-! ### The feedback register -/

theorem lfsrShift_getLsbD_succ {n : Nat} (k : Nat) (r : BitVec n) {i : Nat} (h : i + 1 < n) :
    (lfsrShift k r).getLsbD (i + 1) = r.getLsbD i := by
  simp [lfsrShift, h, BitVec.getLsbD_eq_getElem (show i < n by omega)]

theorem lfsrShift_getLsbD_zero {n : Nat} (k : Nat) (r : BitVec n) (h : 0 < n) :
    (lfsrShift k r).getLsbD 0 = xor (r.getLsbD (n - 1)) (r.getLsbD (k - 1)) := by
  simp [lfsrShift, h]

/-- A register that is not all zeros stays so: the shift keeps every stage but the last, and the last is fed back
(R149). -/
theorem lfsrShift_ne_zero {n k : Nat} (hn : 1 < n) (hk : k < n) {r : BitVec n} (h : r ≠ 0) : lfsrShift k r ≠ 0 := by
  intro hzero
  have hlow : ∀ i, i + 1 < n → r.getLsbD i = false := fun i hi => by
    rw [← lfsrShift_getLsbD_succ k r hi, hzero, BitVec.ofNat_eq_ofNat, BitVec.getLsbD_zero]
  have hfeed : xor (r.getLsbD (n - 1)) (r.getLsbD (k - 1)) = false := by
    rw [← lfsrShift_getLsbD_zero k r (by omega), hzero, BitVec.ofNat_eq_ofNat, BitVec.getLsbD_zero]
  have hlast : r.getLsbD (n - 1) = false := by
    rwa [hlow (k - 1) (by omega), Bool.xor_false] at hfeed
  refine h (BitVec.eq_of_getLsbD_eq fun i hi => ?_)
  rw [BitVec.ofNat_eq_ofNat, BitVec.getLsbD_zero]
  by_cases hi' : i + 1 < n
  · exact hlow i hi'
  · rw [show i = n - 1 by omega, hlast]

/-- After m shifts each stage stands m stages on. -/
theorem lfsrShifts_getLsbD {n : Nat} (k : Nat) (r : BitVec n) (m : Nat) {i : Nat} (h : i + m < n) :
    (Nat.repeat (lfsrShift k) m r).getLsbD (i + m) = r.getLsbD i := by
  induction m with
  | zero => rfl
  | succ m ih =>
    have hstep : (Nat.repeat (lfsrShift k) (m + 1) r).getLsbD (i + (m + 1)) = _ :=
      lfsrShift_getLsbD_succ k (Nat.repeat (lfsrShift k) m r) (i := i + m) (by omega)
    rw [hstep, ih (by omega)]

theorem lfsrByte_getLsbD {n : Nat} (k : Nat) (r : BitVec n) {i : Nat} (h : i + 8 < n) :
    (lfsrByte k r).getLsbD (i + 8) = r.getLsbD i := lfsrShifts_getLsbD k r 8 h

theorem lfsrByte_ne_zero {n k : Nat} (hn : 1 < n) (hk : k < n) {r : BitVec n} (h : r ≠ 0) : lfsrByte k r ≠ 0 := by
  have hshifts : ∀ m, Nat.repeat (lfsrShift k) m r ≠ 0 := by
    intro m
    induction m with
    | zero => exact h
    | succ m ih => exact lfsrShift_ne_zero hn hk ih
  exact hshifts 8

/-- Two bytes of the stream hold the register that formed the second (R153). -/
theorem seed_of_stream {n : Nat} (k : Nat) (r : BitVec n) (hn : n ≤ 16) :
    (word16 (r.setWidth 8) ((lfsrByte k r).setWidth 8)).setWidth n = lfsrByte k r := by
  refine BitVec.eq_of_getLsbD_eq fun i hi => ?_
  rw [BitVec.getLsbD_setWidth, word16, BitVec.getLsbD_append]
  by_cases h8 : i < 8
  · simp [hi, h8]
  · obtain ⟨j, rfl⟩ : ∃ j, i = j + 8 := ⟨i - 8, by omega⟩
    have hj : j < 8 := by omega
    rw [lfsrByte_getLsbD k r hi]
    simp [hi, hj]

/-! ### The elements of a seeking checker -/

theorem checkElement_seek {p : PatternUnit} (h : p.checker = .seek) (e : Option Byte) :
    checkElement p e = (seekElement p e, []) := by
  unfold checkElement
  rw [h]

section Prbs
variable {p : PatternUnit}

theorem seekElement_prbs (hp : p.config.checkerPattern = .prbs9 ∨ p.config.checkerPattern = .prbs15) (v : Byte) :
    seekElement p (some v) = seekPrbs p v := by
  unfold seekElement
  rcases hp with h | h <;> rw [h]

theorem seekPrbs_empty (h : p.progress = .empty) (v : Byte) : seekPrbs p v = { p with progress := .seed v } := by
  unfold seekPrbs
  rw [h]

theorem seekPrbs_seed {b : Byte} (h : p.progress = .seed b) (v : Byte) : seekPrbs p v = loadSeeds p b v := by
  unfold seekPrbs
  rw [h]

theorem seekPrbs_loaded {r : PatternRegister} (h : p.progress = .loaded) (hr : p.checkerRegister = some r) (v : Byte) :
    seekPrbs p v = { p with progress := .proof v (nextByte p.config.word r).1
                            checkerRegister := some (nextByte p.config.word r).2 } := by
  unfold seekPrbs
  rw [h, hr]

theorem seekPrbs_proof {r : PatternRegister} {first predicted : Byte} (h : p.progress = .proof first predicted)
    (hr : p.checkerRegister = some r) (v : Byte) : seekPrbs p v
      = if first = predicted ∧ v = (nextByte p.config.word r).1 then toLocked p (nextByte p.config.word r).2
        else loadSeeds p first v := by
  unfold seekPrbs
  rw [h, hr]

/-- The load of two seed bytes, for each of the two registers (R153). -/
theorem loadSeeds_prbs9 (h : p.config.checkerPattern = .prbs9) (b v : Byte) : loadSeeds p b v
    = if (word16 b v).setWidth 9 = 0 then { p with checkerRegister := none, progress := .seed v }
      else { p with checkerRegister := some (.prbs9 ((word16 b v).setWidth 9)), progress := .loaded } := by
  unfold loadSeeds seedRegister
  rw [h]
  dsimp only
  split_ifs <;> rfl

theorem loadSeeds_prbs15 (h : p.config.checkerPattern = .prbs15) (b v : Byte) : loadSeeds p b v
    = if (word16 b v).setWidth 15 = 0 then { p with checkerRegister := none, progress := .seed v }
      else { p with checkerRegister := some (.prbs15 ((word16 b v).setWidth 15)), progress := .loaded } := by
  unfold loadSeeds seedRegister
  rw [h]
  dsimp only
  split_ifs <;> rfl

/-- What a load leaves does not depend on the progress before it (R153). -/
theorem loadSeeds_progress (x : SeekProgress) (b v : Byte) : loadSeeds { p with progress := x } b v
    = loadSeeds p b v := by
  unfold loadSeeds
  split <;> split <;> simp_all

end Prbs

section Bytes
variable {p : PatternUnit}

theorem seekElement_count (h : p.config.checkerPattern = .count) (v : Byte) :
    seekElement p (some v) = seekByte seedCount p v := by
  unfold seekElement
  rw [h]

theorem seekElement_word (h : p.config.checkerPattern = .word) (v : Byte) :
    seekElement p (some v) = seekByte alignWord p v := by
  unfold seekElement
  rw [h]

theorem seekByte_empty (take : PatternUnit → Byte → PatternUnit) (h : p.progress = .empty) (v : Byte) :
    seekByte take p v = take p v := by
  unfold seekByte
  rw [h]

theorem seekByte_loaded (take : PatternUnit → Byte → PatternUnit) {r : PatternRegister} (h : p.progress = .loaded)
    (hr : p.checkerRegister = some r) (v : Byte) : seekByte take p v
      = if v = (nextByte p.config.word r).1 then toLocked p (nextByte p.config.word r).2 else take p v := by
  unfold seekByte
  rw [h, hr]

end Bytes

/-! ### A checker that holds nothing locks on its own pattern -/

/-- The checker fed with bytes, one after the other. -/
def fed (bytes : List Byte) (p : PatternUnit) : PatternUnit := bytes.foldl (fun q v => (checkElement q (some v)).1) p

theorem fed_cons {p q : PatternUnit} {v : Byte} (h : p.checker = .seek) (hq : seekElement p (some v) = q)
    (rest : List Byte) : fed (v :: rest) p = fed rest q := by
  unfold fed
  rw [List.foldl_cons, checkElement_seek h, hq]

/-- Two seed bytes and two proof bytes of a PRBS, from what the load and the register's bytes are (R149, R153). -/
theorem fed_prbs {p : PatternUnit} {R₂ R₃ R₄ : PatternRegister} {b₁ b₂ b₃ b₄ : Byte}
    (hp : p.config.checkerPattern = .prbs9 ∨ p.config.checkerPattern = .prbs15) (hs : p.checker = .seek)
    (he : p.progress = .empty)
    (hload : loadSeeds { p with progress := .seed b₁ } b₁ b₂ =
        { p with checkerRegister := some R₂, progress := .loaded })
    (h₃ : nextByte p.config.word R₂ = (b₃, R₃)) (h₄ : nextByte p.config.word R₃ = (b₄, R₄)) :
    (fed [b₁, b₂, b₃] p).checker = .seek ∧ (fed [b₁, b₂, b₃, b₄] p).checker = .locked
      ∧ (fed [b₁, b₂, b₃, b₄] p).checkerRegister = some R₄ := by
  obtain ⟨q₁, hq₁⟩ : ∃ q, { p with progress := .seed b₁ } = q := ⟨_, rfl⟩
  obtain ⟨q₂, hq₂⟩ : ∃ q, { p with checkerRegister := some R₂, progress := .loaded } = q := ⟨_, rfl⟩
  obtain ⟨q₃, hq₃⟩ : ∃ q, { p with checkerRegister := some R₃, progress := .proof b₃ b₃ } = q := ⟨_, rfl⟩
  have hstep₁ : seekElement p (some b₁) = q₁ := by rw [seekElement_prbs hp, seekPrbs_empty he, hq₁]
  have hstep₂ : seekElement q₁ (some b₂) = q₂ := by
    rw [seekElement_prbs (p := q₁) (hq₁ ▸ hp), seekPrbs_seed (p := q₁) (b := b₁) (hq₁ ▸ rfl), ← hq₁, hload, hq₂]
  have hstep₃ : seekElement q₂ (some b₃) = q₃ := by
    rw [seekElement_prbs (p := q₂) (hq₂ ▸ hp), seekPrbs_loaded (p := q₂) (r := R₂) (hq₂ ▸ rfl) (hq₂ ▸ rfl), ← hq₃,
        ← hq₂]
    simp only [h₃]
  have hstep₄ : seekElement q₃ (some b₄) = toLocked q₃ R₄ := by
    have hnext : nextByte q₃.config.word R₃ = (b₄, R₄) := hq₃ ▸ h₄
    rw [seekElement_prbs (p := q₃) (hq₃ ▸ hp), seekPrbs_proof (p := q₃) (r := R₃) (first := b₃)
      (predicted := b₃) (hq₃ ▸ rfl) (hq₃ ▸ rfl), hnext,
      if_pos ⟨rfl, rfl⟩]
  have hs₁ : q₁.checker = .seek := hq₁ ▸ hs
  have hs₂ : q₂.checker = .seek := hq₂ ▸ hs
  have hs₃ : q₃.checker = .seek := hq₃ ▸ hs
  have hfed : ∀ rest, fed (b₁ :: b₂ :: b₃ :: rest) p = fed rest q₃ := fun rest => by
    rw [fed_cons hs hstep₁, fed_cons hs₁ hstep₂, fed_cons hs₂ hstep₃]
  have hlock : fed [b₁, b₂, b₃, b₄] p = toLocked q₃ R₄ := by
    rw [hfed, fed_cons hs₃ hstep₄]
    rfl
  rw [hlock, hfed]
  exact ⟨hs₃, rfl, rfl⟩

/-- Two bytes of COUNT (R150, R154). -/
theorem fed_count {p : PatternUnit} (hp : p.config.checkerPattern = .count) (hs : p.checker = .seek)
    (he : p.progress = .empty) (v : Byte) : (fed [v] p).checker = .seek ∧ (fed [v, v + 1] p).checker = .locked
      ∧ (fed [v, v + 1] p).checkerRegister = some (.count (v + 2)) := by
  have hstep₁ : seekElement p (some v) = seedCount p v := by rw [seekElement_count hp, seekByte_empty seedCount he]
  have hstep₂ : seekElement (seedCount p v) (some (v + 1)) = toLocked (seedCount p v) (.count (v + 1 + 1)) := by
    rw [seekElement_count (p := seedCount p v) hp, seekByte_loaded (r := .count (v + 1)) seedCount rfl rfl]
    exact if_pos rfl
  have hlock : fed [v, v + 1] p = toLocked (seedCount p v) (.count (v + 1 + 1)) := by
    rw [fed_cons hs hstep₁, fed_cons (p := seedCount p v) hs hstep₂]
    rfl
  rw [hlock, fed_cons hs hstep₁, add_assoc]
  exact ⟨hs, rfl, rfl⟩

/-- The two halves of the word value, in either order (R150, R154): a byte that aligns leaves the half which comes
next. -/
theorem fed_word {p : PatternUnit} (hp : p.config.checkerPattern = .word) (hs : p.checker = .seek)
    (he : p.progress = .empty) {v w : Byte} {high : Bool}
    (halign : alignWord p v = { p with checkerRegister := some (.word high), progress := .loaded })
    (hw : w = if high then hiByte p.config.word else loByte p.config.word) :
    (fed [v] p).checker = .seek ∧ (fed [v, w] p).checker = .locked
      ∧ (fed [v, w] p).checkerRegister = some (.word (!high)) := by
  obtain ⟨q, hq⟩ : ∃ q, { p with checkerRegister := some (.word high), progress := .loaded } = q := ⟨_, rfl⟩
  have hqs : q.checker = .seek := hq ▸ hs
  have hstep₁ : seekElement p (some v) = q := by rw [seekElement_word hp, seekByte_empty alignWord he, halign, hq]
  have hword : q.config.word = p.config.word := hq ▸ rfl
  have hstep₂ : seekElement q (some w) = toLocked q (.word (!high)) := by
    rw [seekElement_word (p := q) (hq ▸ hp), seekByte_loaded (r := .word high) alignWord (hq ▸ rfl) (hq ▸ rfl), hword]
    exact if_pos hw
  have hlock : fed [v, w] p = toLocked q (.word (!high)) := by
    rw [fed_cons hs hstep₁, fed_cons hqs hstep₂]
    rfl
  rw [hlock, fed_cons hs hstep₁]
  exact ⟨hqs, rfl, rfl⟩

theorem hiByte_append (hi lo : Byte) : hiByte (hi ++ lo) = hi := hiByte_word16 hi lo
theorem loByte_append (hi lo : Byte) : loByte (hi ++ lo) = lo := loByte_word16 hi lo

/-- Settles O27: the bytes of each pattern, then the rule of each element. -/
theorem checkerLocksOnItsPattern : Obligations.CheckerLocksOnItsPattern := by
  refine ⟨fun p feed hs he hfeed => ?locks, fun p locks cleared hs hcleared hlocks => ?elements⟩
  case locks =>
    obtain rfl : feed = fun bytes => fed bytes p := funext hfeed
    refine ⟨fun hp r r1 r2 r3 r4 hr h1 h2 h3 h4 => ?_, fun hp r r1 r2 r3 r4 hr h1 h2 h3 h4 => ?_, fun hp v => ?_,
      fun hp hi lo hword => ?_⟩
    · have hne : r2 ≠ 0 := h2 ▸ lfsrByte_ne_zero (by decide) (by decide) (h1 ▸ lfsrByte_ne_zero (by decide)
        (by decide) hr)
      have hseed : (word16 (r1.setWidth 8) (r2.setWidth 8)).setWidth 9 = r2 := h2 ▸ seed_of_stream 5 r1 (by decide)
      refine fed_prbs (.inl hp) hs he ?_ (R₂ := .prbs9 r2) (R₃ := .prbs9 r3) (by rw [nextByte, ← h3]) (by rw [nextByte,
          ← h4])
      rw [loadSeeds_progress, loadSeeds_prbs9 hp, hseed, if_neg hne]
    · have hne : r2 ≠ 0 := h2 ▸ lfsrByte_ne_zero (by decide) (by decide) (h1 ▸ lfsrByte_ne_zero (by decide)
        (by decide) hr)
      have hseed : (word16 (r1.setWidth 8) (r2.setWidth 8)).setWidth 15 = r2 := h2 ▸ seed_of_stream 14 r1 (by decide)
      refine fed_prbs (.inr hp) hs he ?_ (R₂ := .prbs15 r2) (R₃ := .prbs15 r3) (by rw [nextByte, ← h3])
          (by rw [nextByte, ← h4])
      rw [loadSeeds_progress, loadSeeds_prbs15 hp, hseed, if_neg hne]
    · exact fed_count hp hs he v
    · have hhi : hiByte p.config.word = hi := hword ▸ hiByte_append hi lo
      have hlo : loByte p.config.word = lo := hword ▸ loByte_append hi lo
      have hhigh : alignWord p hi = { p with checkerRegister := some (.word false), progress := .loaded } := by
        rw [alignWord, hhi, if_pos rfl]
      have hlow : lo ≠ hi → alignWord p lo = { p with checkerRegister := some (.word true), progress := .loaded } :=
        fun hne => by rw [alignWord, hhi, hlo, if_neg hne, if_pos rfl]
      obtain ⟨hfirst, hlock, hreg⟩ := fed_word (w := lo) hp hs he hhigh hlo.symm
      refine ⟨hfirst, ?_, hlock, hreg, fun hne => (fed_word (w := hi) hp hs he (hlow hne) hhi.symm).2⟩
      by_cases hne : lo = hi
      · exact hne ▸ hfirst
      · exact (fed_word (w := hi) hp hs he (hlow hne) hhi.symm).1
  case elements =>
    subst hcleared
    obtain rfl : locks = toLocked p := funext hlocks
    refine ⟨checkElement_seek hs, rfl, fun v hp => ⟨fun he => ?_, fun b hb h9 => ?_, fun b hb h15 => ?_,
        fun r hl hr => ?_,
      fun r first predicted hf hr => ?_⟩, fun v hp => ⟨fun he => ?_, fun w hl hr => ?_⟩,
      fun v hi lo afresh hp hword hafresh => ?_⟩
    · rw [seekElement_prbs hp, seekPrbs_empty he]
    · rw [seekElement_prbs hp, seekPrbs_seed hb, loadSeeds_prbs9 h9, BitVec.setWidth_eq_extractLsb' (by decide)]
      rfl
    · rw [seekElement_prbs hp, seekPrbs_seed hb, loadSeeds_prbs15 h15, BitVec.setWidth_eq_extractLsb' (by decide)]
      rfl
    · rw [seekElement_prbs hp, seekPrbs_loaded hl hr]
    · rw [seekElement_prbs hp, seekPrbs_proof hf hr,
        seekElement_prbs (p := { p with progress := .seed first }) hp, seekPrbs_seed (b := first) rfl,
            loadSeeds_progress (.seed first)]
    · rw [seekElement_count hp, seekByte_empty seedCount he, seedCount]
    · rw [seekElement_count hp, seekByte_loaded seedCount hl hr]
      rfl
    · have hhi : hiByte p.config.word = hi := hword ▸ hiByte_append hi lo
      have hlo : loByte p.config.word = lo := hword ▸ loByte_append hi lo
      have halign : alignWord p v = afresh := by rw [alignWord, hhi, hlo, hafresh, clearSeek]
      refine ⟨fun he => ?_, fun high hl hr => ?_⟩
      · rw [seekElement_word hp, seekByte_empty alignWord he, halign]
      · rw [seekElement_word hp, seekByte_loaded alignWord hl hr, halign, nextByte, hhi, hlo]

end Sys2Proof.Machine
end

section
/-!
Requests that change ME, the Pending map or the Event Queue: ASSIGN, OPEN, CLOSE, KEEP, NODE_SET, RESTART, MAP_WRITE and
ACK (R32, R37, R41, R122 to R135, R144).
-/

namespace Sys2Proof.Machine

/-! ### Requests whose owner writes ME or the Event Queue -/

/-- A sessionless request whose owner writes ME alone. -/
theorem requestStep_sessionless_withMe {q : ReqName} {f : ReqFrame} {s : State} {rep : Reply}
    {g : Management → Management} (h : TakesFrame q.code f s) (hc : q.code ≠ ReqName.code .capture)
    (hs : q.sessioned f.destination = false) (hr : roomNeeded q (frameRequest q.code f .taker) ≤ f.room.toNat)
    (hp : paramsOk q (frameRequest q.code f .taker) = true)
    (ho : owner q (frameRequest q.code f .taker) (heardAtGate q.code f s) = (rep, onMe g (heardAtGate q.code f s))) :
    requestStep q.code f s
      = answered q.code f rep.status rep.data ((atFs s).withMe (g (heard f (atFs s).me))) := by
  rw [sessionless_answered h hc hs hr hp ho]
  rfl

/-- A gated request whose owner writes ME alone: the last sequence and the cache are written after it (R124). -/
theorem requestStep_sessioned_withMe {q : ReqName} {f : ReqFrame} {s : State} {rep : Reply}
    {g : Management → Management} (h : TakesFrame q.code f s) (hc : q.code ≠ ReqName.code .capture)
    (hs : q.sessioned f.destination = true) (hses : PassesSession f (atFs s).me)
    (hr : roomNeeded q (frameRequest q.code f .taker) ≤ f.room.toNat)
    (hp : paramsOk q (frameRequest q.code f .taker) = true)
    (ho : owner q (frameRequest q.code f .taker) (passedAtGate q.code f s) = (rep, onMe g (passedAtGate q.code f s))) :
    requestStep q.code f s = answered q.code f rep.status rep.data ((atFs s).withMe
      (cacheReply q (frameRequest q.code f .taker) rep (g { (atFs s).me with inactivity := 0 }))) := by
  rw [sessioned_answered h hc hs hses hr hp ho]
  rfl

/-- A gated request whose owner writes the Event Queue alone. -/
theorem requestStep_sessioned_withEq {q : ReqName} {f : ReqFrame} {s : State} {rep : Reply} {e : EventQueue}
    (h : TakesFrame q.code f s) (hc : q.code ≠ ReqName.code .capture)
    (hs : q.sessioned f.destination = true) (hses : PassesSession f (atFs s).me)
    (hcl : ¬(q = .closeSession ∧ rep.status = .ok))
    (hv : serve q (frameRequest q.code f .taker) (passedAtGate q.code f s)
      = (rep, (passedAtGate q.code f s).withEq e)) :
    requestStep q.code f s = answered q.code f rep.status rep.data
      (((atFs s).withMe (gated f rep.status rep.data (atFs s).me)).withEq e) := by
  rw [requestStep_sessioned h hc hs hses hv]
  unfold onMe cacheReply
  rw [if_neg hcl]
  rfl

/-! ### Parameter checks (step 6) -/

theorem paramsOk_assign_iff (r : Request) :
    paramsOk .assign r = true ↔ ∃ v : Byte, r.params = [v] ∧ 1 ≤ v.toNat ∧ v.toNat ≤ 239 := by
  simp only [paramsOk, decide_eq_true_eq, List.length_eq_one_iff, Request.param]
  constructor
  · rintro ⟨⟨v, hp⟩, hrange⟩
    exact ⟨v, hp, by simpa [hp] using hrange⟩
  · rintro ⟨v, hp, hrange⟩
    exact ⟨⟨v, hp⟩, by simpa [hp] using hrange⟩

theorem paramsOk_openSession_iff (r : Request) : paramsOk .openSession r = true
    ↔ r.params = [] ∧ r.session = 0 ∧ 1 ≤ r.controller.toNat ∧ r.controller.toNat ≤ 15 := by
  simp only [paramsOk, decide_eq_true_eq, List.length_eq_zero_iff]

theorem paramsOk_ack_iff (r : Request) : paramsOk .ack r = true ↔ ∃ v : Byte, r.params = [v] := by
  simp only [paramsOk, decide_eq_true_eq, List.length_eq_one_iff]

/-- The requests that carry no parameter bytes. -/
theorem paramsOk_bare_iff {q : ReqName} (hq : q = .identify ∨ q = .closeSession ∨ q = .keep ∨ q = .nodeGet
    ∨ q = .restart
      ∨ q = .mapCopy ∨ q = .mapCheck ∨ q = .disarm ∨ q = .switchStatus ∨ q = .poll ∨ q = .testStop ∨ q = .testStatus)
    (r : Request) : paramsOk q r = true ↔ r.params = [] := by
  rcases hq with rfl | rfl | rfl | rfl | rfl | rfl | rfl | rfl | rfl | rfl | rfl | rfl <;> exact List.isEmpty_iff

theorem boolOfByte_eq_some_iff (v : Byte) (b : Bool) : boolOfByte v = some b ↔ v = if b then 0x01 else 0x00 := by
  unfold boolOfByte
  constructor
  · intro h
    split_ifs at h with h0 h1 <;> cases h <;> assumption
  · rintro rfl
    cases b <;> rfl

theorem NodeSettings.valid_iff (n : NodeSettings) : n.valid = true ↔ n.guardLength.toNat ≤ 7 ∧ n.sessionTimeout ≠ 0
    ∧ 2 ≤ n.confirmCount.toNat ∧ n.confirmCount.toNat ≤ 7 ∧ 1 ≤ n.missLimit.toNat ∧ n.missLimit.toNat ≤ 7 := by
  have hpos : 1 ≤ n.sessionTimeout.toNat ↔ n.sessionTimeout ≠ 0 := by
    rw [Nat.one_le_iff_ne_zero, Ne, Ne, ← BitVec.toNat_inj]
    rfl
  simp only [NodeSettings.valid, decide_eq_true_eq, hpos]

/-- Eight bytes are node settings exactly where they are the bytes of valid ones (R133). -/
theorem nodeSettingsOfBytes_eq_some_iff (bs : List Byte) (n : NodeSettings) :
    nodeSettingsOfBytes bs = some n ↔ n.valid = true ∧ bs = n.bytes := by
  constructor
  · intro h
    refine ⟨valid_of_nodeSettingsOfBytes h, ?_⟩
    unfold nodeSettingsOfBytes at h
    split at h
    · split at h
      · rename_i a c ha hc
        dsimp only at h
        split_ifs at h
        cases h
        rw [(boolOfByte_eq_some_iff _ _).mp ha, (boolOfByte_eq_some_iff _ _).mp hc]
        rfl
      · cases h
    · cases h
  · rintro ⟨hvalid, rfl⟩
    have hbool : ∀ b, boolOfByte (boolByte b) = some b := fun b => (boolOfByte_eq_some_iff _ b).mpr rfl
    simp only [NodeSettings.bytes, nodeSettingsOfBytes, hbool]
    exact if_pos hvalid

/-! ### ASSIGN, OPEN, CLOSE, KEEP, NODE_SET, RESTART -/

/-- Settles O39: ASSIGN to destination 0 and to the part's own address. -/
theorem assignSetsTheAddress : Obligations.AssignSetsTheAddress := by
  rintro f s a v rfl ht hp h1 h239
  have hok : paramsOk .assign (frameRequest 0x02 f .taker) = true := (paramsOk_assign_iff _).mpr ⟨v, hp, h1, h239⟩
  have hparam : (frameRequest 0x02 f .taker).param 0 = v := param_zero_of_params hp
  have howner : ∀ u, owner .assign (frameRequest 0x02 f .taker) u = (bare .ok, onMe (fun m =>
      { m with address := v }) u) :=
    fun u => by rw [owner, assignOwner, hparam]
  refine ⟨fun hd => ?_, fun hd hses => ?_⟩
  · exact congrArg Host.Outcome.next (requestStep_sessionless_withMe (q := .assign) ht (by decide)
      (by simp [ReqName.sessioned, hd])
      (Nat.zero_le _) hok (howner _))
  · exact congrArg Host.Outcome.next (requestStep_sessioned_withMe (q := .assign) ht (by decide)
      (by simpa [ReqName.sessioned] using hd)
      hses (Nat.zero_le _) hok (howner _))

/-- A session with a tag that is not 0 does not hear a request that carries none. -/
theorem heard_of_tag_ne {f : ReqFrame} {m : Management} {k : Session} (hk : m.session = some k)
    (hne : k.tag ≠ f.session) :
    heard f m = m := by
  have hno : ¬ m.session.map Session.tag = some f.session := by simpa [hk] using hne
  unfold heard
  rw [if_neg hno]

/-- Settles O40: the session is opened or renewed, or held by another controller. -/
theorem openIssuesATag : Obligations.OpenIssuesATag := by
  rintro f s a tag rfl ht hp hroom hses h1 h15 rfl
  have hok : paramsOk .openSession (frameRequest 0x03 f .taker) = true :=
    (paramsOk_openSession_iff _).mpr ⟨hp, hses, h1, h15⟩
  have hsession : (heardAtGate 0x03 f s).me.session = (atFs s).me.session := rfl
  refine ⟨fun hfree => ?_, fun k hk hne htag => ?_⟩
  · have howner : owner .openSession (frameRequest 0x03 f .taker) (heardAtGate 0x03 f s)
        = (⟨.ok, [nextTag (atFs s).me.tagCounter]⟩, onMe (openedSession f.controller) (heardAtGate 0x03 f s)) := by
      unfold owner openOwner
      rw [hsession]
      cases hk : (atFs s).me.session with
      | none => rfl
      | some k => exact if_pos (hfree k hk)
    exact congrArg Host.Outcome.next (requestStep_sessionless_withMe (q := .openSession) ht
        (by decide) rfl hroom hok howner)
  · have howner : owner .openSession (frameRequest 0x03 f .taker) (heardAtGate 0x03 f s)
        = (⟨.held, [k.owner]⟩, heardAtGate 0x03 f s) := by
      unfold owner openOwner
      rw [hsession, hk]
      exact if_neg hne
    have hstep := requestStep_sessionless (q := .openSession) ht (by decide) rfl
      ((serve_owner (q := .openSession) (r := frameRequest 0x03 f .taker) rfl hroom hok).trans howner)
    rw [heard_of_tag_ne hk (by rw [hses]; exact htag)] at hstep
    exact congrArg Host.Outcome.next hstep

/-- Settles O41: CLOSE, which caches nothing, and KEEP. -/
theorem closeAndKeepTheSession : Obligations.CloseAndKeepTheSession := by
  rintro f s a rfl hp hses
  refine ⟨fun ht => ?_, fun ht => ?_⟩
  · have hok : paramsOk .closeSession (frameRequest 0x04 f .taker) = true := (paramsOk_bare_iff (by simp) _).mpr hp
    exact congrArg Host.Outcome.next (requestStep_sessioned_withMe (q := .closeSession) (g := closedSession) ht
        (by decide) rfl
      hses (Nat.zero_le _) hok rfl)
  · have hok : paramsOk .keep (frameRequest 0x05 f .taker) = true := (paramsOk_bare_iff (by simp) _).mpr hp
    exact congrArg Host.Outcome.next (requestStep_sessioned_unchanged (q := .keep) ht (by decide) rfl hses (by simp)
      (serve_owner rfl (Nat.zero_le _) hok))

/-- Settles O42: the whole record of settings replaced, and the flag set. -/
theorem nodeSetAndRestartExecute : Obligations.NodeSetAndRestartExecute := by
  rintro f s a rfl hses
  refine ⟨fun n ht hp hg ht0 hc2 hc7 hm1 hm7 => ?_, fun ht hp => ?_⟩
  · have hbytes : nodeSettingsOfBytes (frameRequest 0x07 f .taker).params = some n :=
      (nodeSettingsOfBytes_eq_some_iff _ n).mpr ⟨n.valid_iff.mpr ⟨hg, ht0, hc2, hc7, hm1, hm7⟩, hp⟩
    have hok : paramsOk .nodeSet (frameRequest 0x07 f .taker) = true := by rw [paramsOk, hbytes, Option.isSome_some]
    have howner : owner .nodeSet (frameRequest 0x07 f .taker) (passedAtGate 0x07 f s)
        = (bare .ok, onMe (fun m => { m with node := n }) (passedAtGate 0x07 f s)) := by
      rw [owner, nodeSetOwner, hbytes]
    have hstep := requestStep_sessioned_withMe (q := .nodeSet) (rep := bare .ok) (g := fun m => { m with node := n }) ht
      (by decide) rfl hses (Nat.zero_le _) hok howner
    exact congrArg Host.Outcome.next hstep
  · have hok : paramsOk .restart (frameRequest 0x08 f .taker) = true := (paramsOk_bare_iff (by simp) _).mpr hp
    have hstep := requestStep_sessioned_withMe (q := .restart) (rep := bare .ok)
      (g := fun m => { m with deferredRestart := true }) ht (by decide) rfl hses (Nat.zero_le _) hok rfl
    exact congrArg Host.Outcome.next hstep

/-! ### ACK -/

theorem newerThan_append {v : Byte} {older newer : List EventRecord} {e : EventRecord} (he : e.sequence = v)
    (hno : ∀ x ∈ older, x.sequence ≠ v) : newerThan v (older ++ e :: newer) = some newer := by
  induction older with
  | nil => exact if_pos he
  | cons x older ih =>
    rw [List.cons_append, newerThan, if_neg (hno x (by simp))]
    exact ih fun y hy => hno y (List.mem_cons_of_mem x hy)

theorem newerThan_eq_none {v : Byte} {es : List EventRecord} (hno : ∀ x ∈ es, x.sequence ≠ v) : newerThan v es
    = none := by
  induction es with
  | nil => rfl
  | cons x es ih =>
    rw [newerThan, if_neg (hno x (by simp))]
    exact ih fun y hy => hno y (List.mem_cons_of_mem x hy)

/-- Settles O52: the record found, not found, and a parameter length that is not 1. -/
theorem ackRemovesRecords : Obligations.AckRemovesRecords := by
  rintro f s a v rfl ht hses
  refine ⟨fun hp older newer e hevents he hno => ?_, fun hbad => ?_⟩
  · have hok : paramsOk .ack (frameRequest 0x29 f .taker) = true := (paramsOk_ack_iff _).mpr ⟨v, hp⟩
    have hparam : (frameRequest 0x29 f .taker).param 0 = v := param_zero_of_params hp
    have hfound : newerThan v (passedAtGate 0x29 f s).eq.events = some newer := by
      change newerThan v (atFs s).eq.events = some newer
      rw [hevents, newerThan_append he hno]
    have howner : owner .ack (frameRequest 0x29 f .taker) (passedAtGate 0x29 f s) = (bare .ok,
        (passedAtGate 0x29 f s).withEq
        { events := newer, nextSequence := (atFs s).eq.nextSequence }) := by
      rw [owner, ackOwner, hparam, hfound]
      rfl
    exact congrArg Host.Outcome.next (requestStep_sessioned_withEq (q := .ack) ht (by decide) rfl hses (by simp)
      ((serve_owner rfl (Nat.zero_le _) hok).trans howner))
  · refine congrArg Host.Outcome.next (requestStep_sessioned_unchanged (q := .ack) ht (by decide) rfl hses (by simp)
      (rep := bare .badParam) ?_)
    rcases hbad with hlen | ⟨hp, hno⟩
    · refine serve_badParam (Nat.zero_le _) (Bool.eq_false_iff.mpr fun h => hlen ?_)
      obtain ⟨w, hw⟩ := (paramsOk_ack_iff _).mp h
      exact congrArg List.length hw
    · have hok : paramsOk .ack (frameRequest 0x29 f .taker) = true := (paramsOk_ack_iff _).mpr ⟨v, hp⟩
      have hparam : (frameRequest 0x29 f .taker).param 0 = v := param_zero_of_params hp
      have hmissing : newerThan v (passedAtGate (ReqName.code .ack) f s).eq.events = none := newerThan_eq_none hno
      refine (serve_owner (r := frameRequest 0x29 f .taker) rfl (Nat.zero_le _) hok).trans ?_
      rw [owner, ackOwner, hparam, hmissing]

end Sys2Proof.Machine
end

section
/-!
MAP_WRITE, ARM and TEST_SET (R32, R37, R41, R64 to R68, R158).
-/

namespace Sys2Proof.Machine

/-! ### Entry bytes (R32) -/

theorem entryOfByte_byte {e : Entry} (h : e ≠ .guard) : entryOfByte e.byte = some e := by
  have hdrop : ∀ b : BranchNo, entryOfByte (Entry.byte (.drop b)) = some (.drop b) := by decide
  have htap : ∀ b : BranchNo, entryOfByte (Entry.byte (.tap b)) = some (.tap b) := by decide
  have hinsert : ∀ b : BranchNo, entryOfByte (Entry.byte (.insert b)) = some (.insert b) := by decide
  have hexchange : ∀ b : BranchNo, entryOfByte (Entry.byte (.exchange b)) = some (.exchange b) := by decide
  cases e with
  | guard => exact absurd rfl h
  | pass => rfl
  | service => rfl
  | test => rfl
  | drop b => exact hdrop b
  | tap b => exact htap b
  | insert b => exact hinsert b
  | exchange b => exact hexchange b

/-- A byte whose high half is the action code and whose low half is the branch number is the entry's byte. -/
theorem eq_entryByte {v : Byte} {e : Entry} {k low : Nat} (hk : v.toNat / 16 = k) (hlow : v.toNat % 16 = low)
    (hcode : e.actionCode = k) (hbranch : e.branch.elim 0 Fin.val = low) : v = e.byte := by
  have hv : 16 * e.actionCode + e.branch.elim 0 Fin.val = v.toNat := by omega
  rw [Entry.byte, hv]
  simp [natByte]

/-- A byte names a storable entry exactly where it is that entry's byte (R32). -/
theorem entryOfByte_eq_some_iff (v : Byte) (e : Entry) : entryOfByte v = some e ↔ e ≠ .guard ∧ v = e.byte := by
  constructor
  · intro h
    refine ⟨entryOfByte_ne_guard h, ?_⟩
    have hlow4 : v.toNat % 16 < 4 → v.toNat % 4 = v.toNat % 16 := by omega
    unfold entryOfByte at h
    dsimp only at h
    split at h
    · rename_i hk
      split_ifs at h with hlow
      cases h
      exact eq_entryByte hk hlow rfl rfl
    · rename_i hk
      split_ifs at h with hlow
      cases h
      exact eq_entryByte hk rfl rfl (hlow4 hlow)
    · rename_i hk
      split_ifs at h with hlow
      cases h
      exact eq_entryByte hk rfl rfl (hlow4 hlow)
    · rename_i hk
      split_ifs at h with hlow
      cases h
      exact eq_entryByte hk rfl rfl (hlow4 hlow)
    · rename_i hk
      split_ifs at h with hlow
      cases h
      exact eq_entryByte hk rfl rfl (hlow4 hlow)
    · rename_i hk
      split_ifs at h with hlow
      cases h
      exact eq_entryByte hk hlow rfl rfl
    · rename_i hk
      split_ifs at h with hlow
      cases h
      exact eq_entryByte hk hlow rfl rfl
    · cases h
  · rintro ⟨hne, rfl⟩
    exact entryOfByte_byte hne

/-- The nineteen valid entry bytes (R32). -/
theorem entryOfByte_isSome_iff (v : Byte) : (entryOfByte v).isSome = true
    ↔ v = 0x00 ∨ v = 0x50 ∨ v = 0x60 ∨ (1 ≤ v.toNat / 16 ∧ v.toNat / 16 ≤ 4 ∧ v.toNat % 16 < 4) := by
  have hbyte : ∀ e : Entry, e.byte.toNat = 16 * e.actionCode + e.branch.elim 0 Fin.val := fun e => by
    refine natByte_toNat ?_
    cases e <;> simp only [Entry.actionCode, Entry.branch, Option.elim] <;> omega
  constructor
  · intro h
    obtain ⟨e, he⟩ := Option.isSome_iff_exists.mp h
    obtain ⟨hne, rfl⟩ := (entryOfByte_eq_some_iff v e).mp he
    have hv := hbyte e
    cases e with
    | pass => exact .inl rfl
    | service => exact .inr (.inl rfl)
    | test => exact .inr (.inr (.inl rfl))
    | guard => exact absurd rfl hne
    | drop b => simp only [Entry.actionCode, Entry.branch, Option.elim] at hv; exact .inr (.inr (.inr (by omega)))
    | tap b => simp only [Entry.actionCode, Entry.branch, Option.elim] at hv; exact .inr (.inr (.inr (by omega)))
    | insert b => simp only [Entry.actionCode, Entry.branch, Option.elim] at hv; exact .inr (.inr (.inr (by omega)))
    | exchange b => simp only [Entry.actionCode, Entry.branch, Option.elim] at hv; exact .inr (.inr (.inr (by omega)))
  · rintro (rfl | rfl | rfl | ⟨h1, h4, hlow⟩)
    · rfl
    · rfl
    · rfl
    · unfold entryOfByte
      dsimp only
      obtain hk | hk | hk | hk : v.toNat / 16 = 1 ∨ v.toNat / 16 = 2 ∨ v.toNat / 16 = 3 ∨ v.toNat / 16 = 4 := by omega
      · simp [hk, hlow]
      · simp [hk, hlow]
      · simp [hk, hlow]
      · simp [hk, hlow]

/-! ### MAP_WRITE (R41) -/

theorem mapM_entryOfByte {es : List Entry} (h : ∀ e ∈ es, e ≠ .guard) : (es.map Entry.byte).mapM entryOfByte
    = some es := by
  induction es with
  | nil => rfl
  | cons e es ih =>
    rw [List.map_cons, List.mapM_cons, entryOfByte_byte (h e (by simp)), ih fun x hx => h x (List.mem_cons_of_mem e hx)]
    rfl

/-- What a store of consecutive entries leaves at each index. -/
theorem storeEntries_getElem (es : Vector Entry 120) (first : Nat) (l : List Entry) (i : SlotIx) :
    (storeEntries es first l)[i] = if first ≤ i.val then l.getD (i.val - first) es[i] else es[i] := by
  induction l generalizing es first with
  | nil =>
    rw [storeEntries, List.getD_nil, ite_self]
  | cons e l ih =>
    have hset : (es.setIfInBounds first e)[i] = if first = i.val then e else es[i] := by
      simp only [Fin.getElem_fin, Vector.getElem_setIfInBounds]
    rw [storeEntries, ih, hset]
    rcases Nat.lt_trichotomy first i.val with hlt | heq | hgt
    · obtain ⟨k, hk⟩ : ∃ k, i.val - first = k + 1 := ⟨i.val - first - 1, by omega⟩
      have hk' : i.val - (first + 1) = k := by omega
      rw [if_pos (show first + 1 ≤ i.val by omega), if_pos (show first ≤ i.val by omega),
        if_neg (show ¬ first = i.val by omega), hk, hk', List.getD_cons_succ]
    · rw [if_neg (show ¬ first + 1 ≤ i.val by omega), if_pos heq, if_pos (show first ≤ i.val by omega), heq,
        Nat.sub_self,
        List.getD_cons_zero]
    · rw [if_neg (show ¬ first + 1 ≤ i.val by omega), if_neg (show ¬ first = i.val by omega),
        if_neg (show ¬ first ≤ i.val by omega)]

theorem storeEntries_eq_ofFn (es : Vector Entry 120) (first : Nat) (l : List Entry) : storeEntries es first l
    = Vector.ofFn fun i : SlotIx => if first ≤ i.val then l.getD (i.val - first) es[i] else es[i] := by
  refine Vector.ext fun i hi => ?_
  rw [Vector.getElem_ofFn]
  exact storeEntries_getElem es first l ⟨i, hi⟩

theorem mapWriteOwner_locked {s : State} (h : s.mu.switch.state ≠ .idle) (r : Request) :
    mapWriteOwner r s = (bare .locked, s) := if_pos ((pendingLocked_iff s.mu).mpr h)

theorem mapWriteOwner_idle {r : Request} {s : State} {first : Byte} {es : List Entry} (h : s.mu.switch.state = .idle)
    (hp : r.params = first :: es.map Entry.byte) (hes : ∀ e ∈ es, e ≠ .guard) : mapWriteOwner r s
      = (bare .ok, setPendingMap { s.mu.pendingMap with
          entries := storeEntries s.mu.pendingMap.entries first.toNat es } s) := by
  have hwritten : writtenEntries r = some es := by rw [writtenEntries, hp, List.drop_one, List.tail_cons,
      mapM_entryOfByte hes]
  unfold mapWriteOwner
  rw [if_neg (fun hl => (pendingLocked_iff s.mu).mp hl h), hwritten, param_zero_of_params hp]
  rfl

theorem paramsOk_mapWrite {r : Request} {first : Byte} {es : List Entry} (hp : r.params = first :: es.map Entry.byte)
    (hes : ∀ e ∈ es, e ≠ .guard) (h1 : 1 ≤ es.length) (h30 : es.length ≤ 30) (h119 : first.toNat ≤ 119)
    (h120 : first.toNat + es.length ≤ 120) : paramsOk .mapWrite r = true := by
  have hwritten : writtenEntries r = some es := by rw [writtenEntries, hp, List.drop_one, List.tail_cons,
      mapM_entryOfByte hes]
  have hlen : r.params.length = es.length + 1 := by rw [hp, List.length_cons, List.length_map]
  unfold paramsOk
  rw [hwritten, param_zero_of_params hp, hlen, Option.isSome_some, Bool.and_true, decide_eq_true_eq]
  omega

/-- Settles O44: the valid bytes, then MAP_WRITE refused and executed. -/
theorem mapWriteStoresEntries : Obligations.MapWriteStoresEntries := by
  refine ⟨entryOfByte_eq_some_iff, entryOfByte_isSome_iff, ?_⟩
  rintro f s a first es rfl ht hses hp hes h1 h30 h119 h120
  have hok : paramsOk .mapWrite (frameRequest 0x11 f .taker) = true := paramsOk_mapWrite hp hes h1 h30 h119 h120
  refine ⟨fun hs => ?_, fun hs => ?_⟩
  · exact congrArg Host.Outcome.next (requestStep_sessioned_unchanged (q := .mapWrite) ht (by decide) rfl hses (by simp)
      ((serve_owner rfl (Nat.zero_le _) hok).trans (mapWriteOwner_locked (s := passedAtGate 0x11 f s) hs _)))
  · rw [← storeEntries_eq_ofFn]
    exact congrArg Host.Outcome.next (requestStep_sessioned_withMu (q := .mapWrite) (rep := bare .ok) ht
        (by decide) rfl hses
      (by simp) ((serve_owner rfl (Nat.zero_le _) hok).trans
        (mapWriteOwner_idle (r := frameRequest 0x11 f .taker) (s := passedAtGate 0x11 f s) hs hp hes)))

end Sys2Proof.Machine
end

section
/-!
ARM and TEST_SET (R64 to R68, R158).
-/

namespace Sys2Proof.Machine

/-! ### ARM -/

theorem paramsOk_arm_iff (r : Request) : paramsOk .arm r = true
    ↔ ∃ set c hi lo : Byte, r.params = [set, c, hi, lo] ∧ set.toNat ≤ 31 := by
  unfold paramsOk
  rw [decide_eq_true_eq]
  constructor
  · rintro ⟨hlen, hset⟩
    obtain ⟨set, c, hi, lo, hp⟩ : ∃ set c hi lo, r.params = [set, c, hi, lo] := by
      match hp : r.params, hlen with
      | [set, c, hi, lo], _ => exact ⟨set, c, hi, lo, rfl⟩
    exact ⟨set, c, hi, lo, hp, param_zero_of_params hp ▸ hset⟩
  · rintro ⟨set, c, hi, lo, hp, hset⟩
    exact ⟨by rw [hp]; rfl, (param_zero_of_params hp).symm ▸ hset⟩

theorem armGroups_of_params {r : Request} {set : BitVec 5} {rest : List Byte} (hp : r.params = set.setWidth 8 :: rest) :
    armGroups r = set := by
  rw [armGroups, param_zero_of_params hp]
  exact BitVec.setWidth_setWidth_of_le set (by decide)

theorem cycleAhead_iff {s : State} {now : Byte} (hnow : s.ct.cycle = some now) (c : Byte) (lo hi : Nat) :
    cycleAhead s c lo hi = true ↔ lo ≤ (c - now).toNat ∧ (c - now).toNat ≤ hi := by
  rw [cycleAhead, hnow]
  exact decide_eq_true_iff

theorem param_one_of_params {r : Request} {v w : Byte} {rest : List Byte} (hp : r.params = v :: w :: rest) :
    r.param 1 = w := by
  rw [Request.param, hp]
  rfl

/-- The record an accepted ARM fills, from C to the arming tag (R66). -/
theorem armedRecord_eq {r : Request} {set : BitVec 5} {c : Byte} {rest : List Byte}
    (hp : r.params = set.setWidth 8 :: c :: rest) (g : Byte) (m : MapUnit) : armedRecord r g m = { m.switch with
      state := .armed, cycle := c, groups := set, guardLength := g, guardEnd := c + g, moved := movedCount m set
      held := heldCount m set, guarded := guardedCount m set g, armingTag := r.session } := by
  rw [armedRecord, armGroups_of_params hp, param_one_of_params hp]

/-- The seven checks of ARM, by what it reads (R65). -/
theorem armOwner_eq {r : Request} {s : State} {set : BitVec 5} {c hi lo now : Byte}
    (hp : r.params = [set.setWidth 8, c, hi, lo]) (hlocked : s.ct.lock = .locked) (hnow : s.ct.cycle = some now) :
    armOwner r s =
      if s.mu.switch.state ≠ .idle then (bare .busy, s)
      else if s.ct.coasting = true then (bare .notLocked, s)
      else if set = 0 then (bare .badParam, s)
      else if ¬(2 ≤ (c - now).toNat ∧ (c - now).toNat ≤ 127) then (bare .badCycle, s)
      else if s.mu.pendingMap.length ≠ s.mu.live.length ∧ set ≠ 0x1F then (bare .lengthNeedsFull, s)
      else if hi ++ lo ≠ mapCheck s.mu.pendingMap then (⟨.checkMismatch, mapCheckData s.mu.pendingMap⟩, s)
      else if ¬ hasService (merged s.mu set) = true then (bare .noService, s)
      else (⟨.accepted, [natByte (movedCount s.mu set), natByte (heldCount s.mu set),
              natByte (guardedCount s.mu set s.me.node.guardLength)]⟩,
            s.withMu { s.mu with switch := armedRecord r s.me.node.guardLength s.mu }) := by
  have hgroups : armGroups r = set := armGroups_of_params hp
  have hcycle : r.param 1 = c := param_one_of_params hp
  have hcheck : armCheck r = hi ++ lo := by rw [armCheck, Request.param, Request.param, hp]; rfl
  have hcoast : (!lockedNotCoasting s) = true ↔ s.ct.coasting = true := by simp [lockedNotCoasting, hlocked]
  have hahead : (!cycleAhead s c 2 127) = true ↔ ¬(2 ≤ (c - now).toNat ∧ (c - now).toNat ≤ 127) := by
    rw [← cycleAhead_iff hnow, Bool.not_eq_true', Bool.not_eq_true]
  have hservice : (!hasService (merged s.mu set)) = true ↔ ¬ hasService (merged s.mu set) = true := by simp
  unfold armOwner armedRecord
  simp only [hgroups, hcycle, hcheck, hcoast, hahead, hservice]
  rfl

section Arm
variable {f : ReqFrame} {s : State} (ht : TakesFrame 0x18 f s) (hses : PassesSession f (atFs s).me)
include ht hses

/-- An ARM that its owner refuses changes nothing of the switch. -/
theorem arm_refused {rep : Reply}
    (hv : serve .arm (frameRequest 0x18 f .taker) (passedAtGate 0x18 f s) = (rep, passedAtGate 0x18 f s)) :
    exec (.arm f) s = .next (answered 0x18 f rep.status rep.data
      ((atFs s).withMe (gated f rep.status rep.data (atFs s).me))) :=
  congrArg Host.Outcome.next (requestStep_sessioned_unchanged (q := .arm) ht (by decide) rfl hses (by simp) hv)

/-- An ARM that its owner accepts writes the Map Unit. -/
theorem arm_accepted {rep : Reply} {m : MapUnit}
    (hv : serve .arm (frameRequest 0x18 f .taker) (passedAtGate 0x18 f s) = (rep, (passedAtGate 0x18 f s).withMu m)) :
    exec (.arm f) s = .next (answered 0x18 f rep.status rep.data
      (((atFs s).withMe (gated f rep.status rep.data (atFs s).me)).withMu m)) :=
  congrArg Host.Outcome.next (requestStep_sessioned_withMu (q := .arm) ht (by decide) rfl hses (by simp) hv)

end Arm

/-- Settles O46: the seven checks, each with its reply, and the record an accepted ARM fills. -/
theorem armChecksAndArms : Obligations.ArmChecksAndArms := by
  rintro f s a set c hi lo now g check m refused inSet tst mv gd differ L' moved held guarded rfl ht hses hp hroom hnow
    rfl rfl hcheck hrefused hin hL' htst hdiffer hmv hgd hmoved hheld hguarded
  obtain ⟨u, hu⟩ : ∃ u, passedAtGate 0x18 f s = u := ⟨_, rfl⟩
  have hmu : u.mu = (atFs s).mu := hu ▸ rfl
  have hnode : u.me.node = (atFs s).me.node := hu ▸ rfl
  have hct : u.ct = (atFs s).ct := hu ▸ rfl
  obtain rfl : tst = tested (atFs s).mu := funext fun i => Bool.eq_iff_iff.mpr ((htst i).trans decide_eq_true_iff.symm)
  obtain rfl : differ = entriesDiffer (atFs s).mu :=
    funext fun i => Bool.eq_iff_iff.mpr ((hdiffer i).trans decide_eq_true_iff.symm)
  have hinSet : ∀ o, inSet o ↔ groupIn set o = true := fun o => (hin o).trans (groupIn_iff _ o).symm
  obtain rfl : mv = moves (atFs s).mu set := funext fun i => Bool.eq_iff_iff.mpr (by
    rw [hmv, moves_iff, hinSet, hinSet, htst])
  obtain rfl : L' = mergedLength (atFs s).mu set := hL'
  obtain rfl : gd = guardedIndex (atFs s).mu set (atFs s).me.node.guardLength :=
    funext fun i => Bool.eq_iff_iff.mpr ((hgd i).trans (guardedIndex_iff _ _ _ _).symm)
  obtain rfl : moved = movedCount (atFs s).mu set := hmoved
  obtain rfl : held = heldCount (atFs s).mu set := hheld
  obtain rfl : guarded = guardedCount (atFs s).mu set (atFs s).me.node.guardLength := hguarded
  obtain rfl : check = mapCheck (atFs s).mu.pendingMap := hcheck
  have hservice : (∃ i : SlotIx, i.val < mergedLength (atFs s).mu set
      ∧ (if moves (atFs s).mu set i then (atFs s).mu.pendingMap.entries[i] else (atFs s).mu.live.entries[i]) = .service)
      ↔ hasService (merged (atFs s).mu set) = true := by
    simp only [hasService_iff, merged_entry]
    rfl
  have hlocked : u.ct.lock = .locked := by rw [hct, (atFs_frame s).1]; exact ht.locked
  have hok : paramsOk .arm (frameRequest 0x18 f .taker) = true :=
    (paramsOk_arm_iff _).mpr ⟨_, c, hi, lo, hp, by have := set.isLt; simp; omega⟩
  have howner := (serve_owner (q := .arm) (r := frameRequest 0x18 f .taker) (s := u) rfl hroom hok).trans
    (armOwner_eq (r := frameRequest 0x18 f .taker) hp hlocked (hct ▸ hnow))
  rw [hmu, hnode, hct, armedRecord_eq (r := frameRequest 0x18 f .taker) hp] at howner
  simp only [hservice]
  have hr := @arm_refused f s ht hses
  have ha := @arm_accepted f s ht hses
  rw [hu] at hr ha
  simp only [hrefused]
  split_ifs at howner ⊢
  · exact hr howner
  · exact hr howner
  · exact hr howner
  · exact hr howner
  · exact hr howner
  · exact ha howner
  · exact hr howner
  · exact hr howner

/-! ### The bytes of a pattern configuration (R158) -/

theorem boolOfByte_isSome_iff (v : Byte) : (boolOfByte v).isSome = true ↔ v.toNat ≤ 1 := by
  rw [Option.isSome_iff_exists]
  simp only [boolOfByte_eq_some_iff]
  constructor
  · rintro ⟨b, rfl⟩
    cases b <;> decide
  · intro h
    rcases Nat.le_one_iff_eq_zero_or_eq_one.mp h with h0 | h1
    · exact ⟨false, BitVec.eq_of_toNat_eq h0⟩
    · exact ⟨true, BitVec.eq_of_toNat_eq h1⟩

theorem patternOfByte_eq_some_iff (v : Byte) (q : Pattern) : patternOfByte v = some q ↔ v = q.code := by
  unfold patternOfByte
  constructor
  · intro h
    split_ifs at h <;> cases h <;> assumption
  · rintro rfl
    cases q <;> rfl

theorem patternOfByte_isSome_iff (v : Byte) : (patternOfByte v).isSome = true ↔ v.toNat ≤ 3 := by
  rw [Option.isSome_iff_exists]
  simp only [patternOfByte_eq_some_iff]
  constructor
  · rintro ⟨q, rfl⟩
    cases q <;> decide
  · intro h
    have hcases : v.toNat = 0 ∨ v.toNat = 1 ∨ v.toNat = 2 ∨ v.toNat = 3 := by omega
    rcases hcases with h0 | h1 | h2 | h3
    · exact ⟨.prbs9, BitVec.eq_of_toNat_eq h0⟩
    · exact ⟨.prbs15, BitVec.eq_of_toNat_eq h1⟩
    · exact ⟨.count, BitVec.eq_of_toNat_eq h2⟩
    · exact ⟨.word, BitVec.eq_of_toNat_eq h3⟩

theorem patternConfigOfBytes_bytes {c : PatternConfig} (h2 : 2 ≤ c.threshold) (h8 : c.threshold ≤ 8) :
    patternConfigOfBytes c.bytes = some c := by
  have hbool : ∀ b, boolOfByte (boolByte b) = some b := fun b => (boolOfByte_eq_some_iff _ b).mpr rfl
  have hpattern : ∀ q : Pattern, patternOfByte q.code = some q := fun q => (patternOfByte_eq_some_iff _ q).mpr rfl
  have hth : (natByte c.threshold).toNat = c.threshold := by
    simp only [natByte, BitVec.toNat_ofNat]
    omega
  simp only [PatternConfig.bytes, patternConfigOfBytes, hbool, hpattern, word16_hiByte_loByte, hth, h2, h8, and_self,
    if_true]

theorem patternConfigOfBytes_isSome_iff (bs : List Byte) : (patternConfigOfBytes bs).isSome = true
    ↔ ∃ g gp k kp hi lo th : Byte, bs = [g, gp, k, kp, hi, lo, th] ∧ g.toNat ≤ 1 ∧ gp.toNat ≤ 3 ∧ k.toNat ≤ 1
      ∧ kp.toNat ≤ 3 ∧ 2 ≤ th.toNat ∧ th.toNat ≤ 8 := by
  constructor
  · intro h
    unfold patternConfigOfBytes at h
    split at h
    · rename_i g gp k kp hi lo th
      split at h
      · rename_i b q b' q' hg hgp hk hkp
        have hth : 2 ≤ th.toNat ∧ th.toNat ≤ 8 := by
          by_contra hno
          rw [if_neg hno] at h
          cases h
        have hg' := (boolOfByte_isSome_iff g).mp (Option.isSome_of_eq_some hg)
        have hgp' := (patternOfByte_isSome_iff gp).mp (Option.isSome_of_eq_some hgp)
        have hk' := (boolOfByte_isSome_iff k).mp (Option.isSome_of_eq_some hk)
        have hkp' := (patternOfByte_isSome_iff kp).mp (Option.isSome_of_eq_some hkp)
        exact ⟨g, gp, k, kp, hi, lo, th, rfl, hg', hgp', hk', hkp', hth⟩
      · cases h
    · cases h
  · rintro ⟨g, gp, k, kp, hi, lo, th, rfl, hg, hgp, hk, hkp, hth⟩
    obtain ⟨b, hb⟩ := Option.isSome_iff_exists.mp ((boolOfByte_isSome_iff g).mpr hg)
    obtain ⟨q, hq⟩ := Option.isSome_iff_exists.mp ((patternOfByte_isSome_iff gp).mpr hgp)
    obtain ⟨b', hb'⟩ := Option.isSome_iff_exists.mp ((boolOfByte_isSome_iff k).mpr hk)
    obtain ⟨q', hq'⟩ := Option.isSome_iff_exists.mp ((patternOfByte_isSome_iff kp).mpr hkp)
    simp only [patternConfigOfBytes, hb, hq, hb', hq']
    rw [if_pos hth]
    rfl

/-! ### TEST_SET -/

theorem sameStream_iff (before after : Pattern) (w w' : Word16) :
    sameStream before after w w' = true ↔ before = after ∧ (after = .word → w = w') := by
  unfold sameStream
  rw [Bool.and_eq_true, Bool.or_eq_true, decide_eq_true_eq, decide_eq_true_eq, decide_eq_true_eq, ← imp_iff_not_or]

/-- What a TEST_SET leaves, by whether each half goes on with the same stream (R158). -/
theorem applyConfig_eq {c : PatternConfig} {p : PatternUnit} {sameG sameC : Bool}
    (hg : sameG = true ↔ p.config.generatorOn = true
      ∧ sameStream p.config.generatorPattern c.generatorPattern p.config.word c.word = true)
    (hc : sameC = true ↔ p.config.checkerOn = true
      ∧ sameStream p.config.checkerPattern c.checkerPattern p.config.word c.word = true) :
    applyConfig c p = { p with
      config := c
      generator := if c.generatorOn = true ∧ sameG = false then startRegister c.generatorPattern else p.generator
      checker := if c.checkerOn = false then .off else if sameC = true then p.checker else .seek
      checkerRegister := if c.checkerOn = true ∧ sameC = true then p.checkerRegister else none
      progress := if c.checkerOn = true ∧ sameC = true then p.progress else .empty
      window := if c.checkerOn = true ∧ sameC = true then p.window else [] } := by
  rw [← Bool.and_eq_true, ← Bool.eq_iff_iff] at hg hc
  unfold applyConfig setGenerator setChecker
  rw [← hg, ← hc]
  have hgen : (c.generatorOn && !sameG) = true ↔ c.generatorOn = true ∧ sameG = false := by simp
  simp only [hgen]
  by_cases hon : c.checkerOn = true
  · cases sameC <;> simp [hon, toSeek]
  · simp [hon]

/-- Settles O53: refused for its parameters, refused while a run is RUNNING, and executed. -/
theorem testSetConfigures : Obligations.TestSetConfigures := by
  rintro f s a c code p sameG sameC rfl ht hses hcode
  obtain rfl : code = Pattern.code := funext fun q => (hcode q).trans (by cases q <;> rfl)
  refine ⟨fun hbad => ?_, fun hp h2 h8 hpu hg hc => ?_⟩
  · have hnot : paramsOk .testSet (frameRequest 0x30 f .taker) = false := by
      rw [Bool.eq_false_iff, Ne, paramsOk, patternConfigOfBytes_isSome_iff]
      rintro ⟨g, gp, k, kp, hi, lo, th, hp, hrange⟩
      exact hbad g gp k kp hi lo th hp hrange
    exact congrArg Host.Outcome.next (requestStep_sessioned_badParam (q := .testSet) ht (by decide) rfl hses
      (Nat.zero_le _) hnot)
  · have hbytes : patternConfigOfBytes (frameRequest 0x30 f .taker).params = some c :=
      (congrArg patternConfigOfBytes hp).trans (patternConfigOfBytes_bytes h2 h8)
    have hok : paramsOk .testSet (frameRequest 0x30 f .taker) = true := by rw [paramsOk, hbytes, Option.isSome_some]
    have hserve := serve_owner (q := .testSet) (r := frameRequest 0x30 f .taker) (s := passedAtGate 0x30 f s) rfl
      (Nat.zero_le _) hok
    rw [owner, testSetOwner, hbytes, passedAtGate_pu, ← hpu] at hserve
    refine ⟨fun hrun => ?_, fun hrun => ?_⟩
    · rw [if_pos hrun] at hserve
      exact congrArg Host.Outcome.next (requestStep_sessioned_unchanged (q := .testSet) ht (by decide) rfl hses
        (by simp) hserve)
    · rw [← sameStream_iff] at hg hc
      rw [if_neg hrun] at hserve
      dsimp only at hserve
      rw [applyConfig_eq hg hc] at hserve
      exact congrArg Host.Outcome.next (requestStep_sessioned_withPu (q := .testSet) (rep := bare .ok) ht
          (by decide) rfl
        hses (by simp) hserve)

end Sys2Proof.Machine
end

section
/-!
CAPTURE, taken and broadcast (R112, R164, R165, R166).
-/

namespace Sys2Proof.Machine

/-! ### The request rows -/

/-- A request row's command is the step of the request it names, where its frame belongs to the row. -/
theorem exec_request {i : Instr} {q : ReqName} {f : ReqFrame} (h : i.request = some (q, f)) (hrow : i.inRow = true)
    (s : State) : exec i s = .next (requestStep q.code f s) := by
  cases i <;> cases h <;> exact congrArg Host.Outcome.next (if_pos hrow)

/-! ### Parameters and owners -/

theorem paramsOk_capture_iff (r : Request) :
    paramsOk .capture r = true ↔ ∃ m c : Byte, r.params = [m, c] ∧ m.toNat ≤ 1 := by
  unfold paramsOk
  rw [decide_eq_true_eq, List.length_eq_two]
  constructor
  · rintro ⟨⟨m, c, hp⟩, hm⟩
    exact ⟨m, c, hp, param_zero_of_params hp ▸ hm⟩
  · rintro ⟨m, c, hp, hm⟩
    exact ⟨⟨m, c, hp⟩, (param_zero_of_params hp).symm ▸ hm⟩

theorem captureOwner_now {r : Request} {c : Byte} (hp : r.params = [0x00, c]) (u : State) :
    captureOwner r u = (⟨.ok, [u.cb.capture.number + 1]⟩, snapshot u) := by
  rw [captureOwner, param_zero_of_params hp]
  rfl

/-- The three checks of AT_CYCLE (R166). -/
theorem captureOwner_atCycle {r : Request} {c now : Byte} {u : State} (hp : r.params = [0x01, c])
    (hlocked : u.ct.lock = .locked) (hnow : u.ct.cycle = some now) : captureOwner r u =
      if u.ct.coasting = true then (bare .notLocked, u)
      else if ¬(1 ≤ (c - now).toNat ∧ (c - now).toNat ≤ 127) then (bare .badCycle, u)
      else if u.cb.deferred.armed = true then (bare .busy, u)
      else (bare .accepted, u.withCb { u.cb with deferred := { armed := true, cycle := c } }) := by
  have hcoast : (!lockedNotCoasting u) = true ↔ u.ct.coasting = true := by simp [lockedNotCoasting, hlocked]
  have hahead : (!cycleAhead u c 1 127) = true ↔ ¬(1 ≤ (c - now).toNat ∧ (c - now).toNat ≤ 127) := by
    rw [← cycleAhead_iff hnow, Bool.not_eq_true', Bool.not_eq_true]
  rw [captureOwner, param_zero_of_params hp, param_one_of_params hp, if_neg (by decide)]
  unfold captureAtOwner
  simp only [hcoast, hahead]

theorem serve_capture_taken {f : ReqFrame} (hroom : 1 ≤ f.room.toNat)
    (hok : paramsOk .capture (frameRequest 0x38 f .taker) = true) (u : State) :
    serve .capture (frameRequest 0x38 f .taker) u = captureOwner (frameRequest 0x38 f .taker) u :=
  serve_owner (q := .capture) (r := frameRequest 0x38 f .taker) rfl hroom hok

theorem serve_broadcast {q : ReqName} {r : Request} {u : State} (hb : r.broadcast = true) (hp : paramsOk q r = true) :
    serve q r u = owner q r u := by simp [serve, hb, hp]

theorem serve_broadcast_badParam {q : ReqName} {r : Request} {u : State} (hb : r.broadcast = true)
    (hp : paramsOk q r = false) : serve q r u = (bare .badParam, u) := by simp [serve, hb, hp]

/-! ### A CAPTURE that is taken -/

/-- The state on which a taken CAPTURE reaches the gate, but for the count of its own frame: one free choice is drawn
for the order of the two (R164, log entry 3). -/
def captureBase (f : ReqFrame) (s : State) : State :=
  ((atFs s).withSp (frameContext 0x38 f .taker)).withFreeCount ((atFs s).freeCount + 1)

/-- The answer of steps 5 to 7 held as the reply (R110). -/
def replyHeld (f : ReqFrame) (v : Reply × State) : State :=
  onSp (fun c => { c with executed := true, pendingReply := some (formReply f.room.toNat v.1) }) v.2

theorem gate_capture (f : ReqFrame) (role : Role) (u : State) :
    gate (frameRequest 0x38 f role) u = serve .capture (frameRequest 0x38 f role) (onMe (heard f) u) := by
  rw [gate_sessionless (q := .capture) rfl rfl]
  unfold onMe
  rw [touchSession_frame]

/-- A taken CAPTURE, with the count of its own frame before it or after it (R164). -/
theorem requestStep_capture {f : ReqFrame} {s : State} (h : TakesFrame 0x38 f s) : requestStep 0x38 f s =
    if Config.freeBit (atFs s).freeCount then
      replyHeld f (serve .capture (frameRequest 0x38 f .taker) (onMe (heard f) (count 5 (captureBase f s))))
    else count 5 (replyHeld f (serve .capture (frameRequest 0x38 f .taker) (onMe (heard f) (captureBase f s)))) := by
  rw [requestStep_role h, ← gate_capture, ← gate_capture]
  rfl

/-- What a taken CAPTURE does to the deferred capture alone, or to nothing, does not depend on where the count of its
own frame falls. -/
theorem requestStep_capture_deferred {f : ReqFrame} {s : State} {rep : Reply} {d : DeferredCapture}
    (h : TakesFrame 0x38 f s)
    (hv : ∀ u : State, u.ct = (atFs s).ct → u.cb.deferred = (atFs s).cb.deferred →
      serve .capture (frameRequest 0x38 f .taker) u = (rep, u.withCb { u.cb with deferred := d })) :
    requestStep 0x38 f s = answered 0x38 f rep.status rep.data
      ((((atFs s).withFreeCount ((atFs s).freeCount + 1)).withMe (heard f (atFs s).me)).withCb
        { (atFs s).cb with deferred := d }) := by
  rw [requestStep_capture h, hv (onMe (heard f) (count 5 (captureBase f s))) rfl rfl,
    hv (onMe (heard f) (captureBase f s)) rfl rfl]
  split <;> rfl

/-- A taken CAPTURE that is refused changes no capture. -/
theorem requestStep_capture_refused {f : ReqFrame} {s : State} {rep : Reply} (h : TakesFrame 0x38 f s)
    (hv : ∀ u : State, u.ct = (atFs s).ct → u.cb.deferred = (atFs s).cb.deferred →
      serve .capture (frameRequest 0x38 f .taker) u = (rep, u)) :
    requestStep 0x38 f s = answered 0x38 f rep.status rep.data
      (((atFs s).withFreeCount ((atFs s).freeCount + 1)).withMe (heard f (atFs s).me)) :=
  requestStep_capture_deferred (d := (atFs s).cb.deferred) h fun u hct hd => by
    rw [hv u hct hd, ← hd]
    rfl

/-! ### A broadcast CAPTURE -/

/-- A broadcast CAPTURE is executed without a reply (R112). -/
theorem requestStep_broadcastCapture {f : ReqFrame} {s : State} (h : MeetsFrame .broadcast 0x38 f s) :
    requestStep 0x38 f s = onSp (fun c => { c with executed := true })
      (serve .capture (frameRequest 0x38 f .broadcast)
        (onMe (heard f) ((atFs s).withSp (frameContext 0x38 f .broadcast)))).2 := by
  rw [requestStep_role h, ← gate_capture]
  rfl

/-- A broadcast CAPTURE that is refused changes no capture. -/
theorem requestStep_broadcastCapture_refused {f : ReqFrame} {s : State} {rep : Reply}
    (h : MeetsFrame .broadcast 0x38 f s)
    (hv : ∀ u : State, u.ct = (atFs s).ct → u.cb = (atFs s).cb →
      serve .capture (frameRequest 0x38 f .broadcast) u = (rep, u)) :
    requestStep 0x38 f s = ((atFs s).withMe (heard f (atFs s).me)).withSp
      { frameContext 0x38 f .broadcast with executed := true } := by
  rw [requestStep_broadcastCapture h, hv (onMe (heard f) ((atFs s).withSp (frameContext 0x38 f .broadcast))) rfl rfl]
  rfl

/-! ### The statement -/

theorem exec_captureNow {f : ReqFrame} (h : f.params[0]? = some 0x00) (s : State) :
    exec (.captureNow f) s = .next (requestStep 0x38 f s) :=
  exec_request (q := .capture) (i := .captureNow f) rfl (decide_eq_true h) s

theorem exec_captureAtCycle {f : ReqFrame} (h : f.params[0]? = some 0x01) (s : State) :
    exec (.captureAtCycle f) s = .next (requestStep 0x38 f s) :=
  exec_request (q := .capture) (i := .captureAtCycle f) rfl (decide_eq_true h) s

/-- Settles O55: NOW and AT_CYCLE, taken and broadcast, and the refusals of the gate. -/
theorem captureSnapshotsOrArms : Obligations.CaptureSnapshotsOrArms := by
  rintro f s a free c clr inc taken rfl rfl hclr hinc htaken
  have hcount : ∀ u : State, count 5 u = u.withCb { u.cb with live := inc u.cb.live } := fun u => by
    rw [hinc, ← satInc_eq]
    rfl
  have hsnap : ∀ u : State, u.ct = (atFs s).ct → u.cb.capture = (atFs s).cb.capture →
      u.cb.deferred = (atFs s).cb.deferred → u.me.node = (atFs s).me.node →
      snapshot u = u.withCb (taken u.cb.live) := fun u hct hcap hdef hnode => by
    rw [htaken, hclr, ← hnode, ← hct, ← hcap, ← hdef]
    rfl
  have hcycle : ∀ role, f.params = [0x01, c] → paramsOk .capture (frameRequest 0x38 f role) = true :=
    fun role hp => (paramsOk_capture_iff _).mpr ⟨0x01, c, hp, by decide⟩
  have hserveBroadcast : ∀ now, f.params = [0x01, c] → s.ct.lock = .locked → (atFs s).ct.cycle = some now →
      ∀ u : State, u.ct = (atFs s).ct → serve .capture (frameRequest 0x38 f .broadcast) u = _ :=
    fun now hp hl hnow u hct => (serve_broadcast rfl (hcycle _ hp)).trans
      (captureOwner_atCycle (r := frameRequest 0x38 f .broadcast) hp (by rw [hct, (atFs_frame s).1]; exact hl)
          (hct ▸ hnow))
  have hmode : ∀ {m : Byte}, f.params = [m, c] → f.params[0]? = some m := fun hp => by rw [hp]; rfl
  refine ⟨?now, ?nowBroadcast, ?atCycle, ?atCycleBroadcast, ?atCycleBroadcastRefused, ?refused⟩
  case now =>
    intro h hp hroom
    have hok : paramsOk .capture (frameRequest 0x38 f .taker) = true := (paramsOk_capture_iff _).mpr ⟨0x00, c, hp,
        by decide⟩
    have hserve : ∀ u : State, serve .capture (frameRequest 0x38 f .taker) u = (⟨.ok, [u.cb.capture.number + 1]⟩,
        snapshot u) :=
      fun u => (serve_capture_taken hroom hok u).trans (captureOwner_now hp u)
    rw [exec_captureNow (hmode hp), requestStep_capture h, hserve, hserve]
    split
    · left
      rw [hsnap (onMe (heard f) (count 5 (captureBase f s))) rfl rfl rfl rfl, hcount]
      rfl
    · right
      rw [hsnap (onMe (heard f) (captureBase f s)) rfl rfl rfl rfl, hcount, htaken, htaken]
      rfl
  case nowBroadcast =>
    intro h hp
    have hok : paramsOk .capture (frameRequest 0x38 f .broadcast) = true :=
      (paramsOk_capture_iff _).mpr ⟨0x00, c, hp, by decide⟩
    rw [exec_captureNow (hmode hp), requestStep_broadcastCapture h, serve_broadcast rfl hok, owner, captureOwner_now hp,
      hsnap (onMe (heard f) ((atFs s).withSp (frameContext 0x38 f .broadcast))) rfl rfl rfl rfl]
    rfl
  case atCycle =>
    intro now answer h hp hroom hnow hanswer
    have hserve : ∀ u : State, u.ct = (atFs s).ct → u.cb.deferred = (atFs s).cb.deferred →
        serve .capture (frameRequest 0x38 f .taker) u = _ := fun u hct hd =>
      (serve_capture_taken hroom (hcycle _ hp) u).trans (captureOwner_atCycle (r := frameRequest 0x38 f .taker) hp
        (by rw [hct, (atFs_frame s).1]; exact h.locked) (hct ▸ hnow))
    have hrefused := fun rep => requestStep_capture_refused (rep := rep) h
    rw [exec_captureAtCycle (hmode hp)]
    simp only [hanswer]
    split_ifs with hcoast hahead hbusy
    · exact congrArg _ (hrefused (bare .notLocked) fun u hct hd => by rw [hserve u hct hd, hct, if_pos hcoast])
    · exact congrArg _ (hrefused (bare .busy) fun u hct hd => by
        rw [hserve u hct hd, hct, hd, if_neg hcoast, if_neg (not_not.mpr hahead), if_pos hbusy])
    · exact congrArg _ (requestStep_capture_deferred (rep := bare .accepted) h fun u hct hd => by
        rw [hserve u hct hd, hct, hd, if_neg hcoast, if_neg (not_not.mpr hahead), if_neg hbusy])
    · exact congrArg _ (hrefused (bare .badCycle) fun u hct hd => by
        rw [hserve u hct hd, hct, if_neg hcoast, if_pos hahead])
  case atCycleBroadcast =>
    intro now h hp hnow hcoast h1 h127 hidle
    have hahead : 1 ≤ (c - now).toNat ∧ (c - now).toNat ≤ 127 := ⟨h1, h127⟩
    obtain ⟨u, hu⟩ : ∃ u, onMe (heard f) ((atFs s).withSp (frameContext 0x38 f .broadcast)) = u := ⟨_, rfl⟩
    obtain ⟨hct, hcb⟩ : u.ct = (atFs s).ct ∧ u.cb = (atFs s).cb := by rw [← hu]; exact ⟨rfl, rfl⟩
    rw [exec_captureAtCycle (hmode hp), requestStep_broadcastCapture h, hu, hserveBroadcast now hp h.locked hnow u hct,
      hct, hcb, if_neg (by rw [hcoast]; decide), if_neg (not_not.mpr hahead), if_neg (by rw [hidle]; decide), ← hu]
    rfl
  case atCycleBroadcastRefused =>
    intro now h hp hnow hbad
    rw [exec_captureAtCycle (hmode hp)]
    by_cases hcoast : (atFs s).ct.coasting = true
    · exact congrArg _ (requestStep_broadcastCapture_refused h fun u hct hcb => by
        rw [hserveBroadcast now hp h.locked hnow u hct, hct, if_pos hcoast])
    · by_cases hahead : 1 ≤ (c - now).toNat ∧ (c - now).toNat ≤ 127
      · have hbusy : (atFs s).cb.deferred.armed = true := (hbad.resolve_left hcoast).resolve_left (not_not.mpr hahead)
        exact congrArg _ (requestStep_broadcastCapture_refused h fun u hct hcb => by
          rw [hserveBroadcast now hp h.locked hnow u hct, hct, hcb, if_neg hcoast, if_neg (not_not.mpr hahead),
              if_pos hbusy])
      · exact congrArg _ (requestStep_broadcastCapture_refused h fun u hct hcb => by
          rw [hserveBroadcast now hp h.locked hnow u hct, hct, if_neg hcoast, if_pos hahead])
  case refused =>
    intro i mode hi hp0
    have hexec : exec i s = .next (requestStep 0x38 f s) := by
      rcases hi with ⟨rfl, rfl⟩ | ⟨rfl, rfl⟩
      · exact exec_captureNow hp0 s
      · exact exec_captureAtCycle hp0 s
    have hbad : ∀ role, f.params.length ≠ 2 → paramsOk .capture (frameRequest 0x38 f role) = false := fun role hlen =>
      Bool.eq_false_iff.mpr fun hok => by
        obtain ⟨m, c', hp, -⟩ := (paramsOk_capture_iff _).mp hok
        exact hlen (congrArg List.length hp)
    rw [hexec]
    refine ⟨fun h hroom => congrArg _ ?_, fun h hroom hlen => congrArg _ ?_, fun h hlen => congrArg _ ?_⟩
    · have hroom' : (frameRequest 0x38 f .taker).room < roomNeeded .capture (frameRequest 0x38 f .taker) :=
        Nat.lt_one_iff.mpr hroom
      exact requestStep_capture_refused (rep := bare .roomShort) h fun u _ _ => serve_roomShort rfl hroom'
    · have hroom' : roomNeeded .capture (frameRequest 0x38 f .taker) ≤ (frameRequest 0x38 f .taker).room := hroom
      exact requestStep_capture_refused (rep := bare .badParam) h fun u _ _ => serve_badParam hroom' (hbad _ hlen)
    · exact requestStep_broadcastCapture_refused h fun u _ _ => serve_broadcast_badParam rfl (hbad _ hlen)

end Sys2Proof.Machine
end

section
/-!
The gate: the session steps, and what it refuses (R121 to R125).
-/

namespace Sys2Proof.Machine

/-! ### The session steps -/

theorem tagIsOpen_iff (m : Management) (t : Byte) : tagIsOpen m t = true ↔ m.session.map Session.tag = some t := by
  unfold tagIsOpen
  cases m.session <;> simp

theorem heard_of_closed {f : ReqFrame} {m : Management} (h : m.session.map Session.tag ≠ some f.session) :
    heard f m = m := by
  unfold heard
  rw [if_neg h]

theorem ReqName.code_injective : Function.Injective ReqName.code := fun p q h =>
  Option.some.inj ((requestOfCode_code p).symm.trans (h ▸ requestOfCode_code q))

/-- A sessioned request is no CAPTURE, which is sessionless (R121). -/
theorem code_ne_capture_of_sessioned {q : ReqName} {d : Byte} (h : q.sessioned d = true) :
    q.code ≠ ReqName.code .capture := by
  intro hc
  obtain rfl : q = .capture := ReqName.code_injective hc
  cases h

theorem gate_gateSessioned {q : ReqName} {f : ReqFrame} {role : Role} (hs : q.sessioned f.destination = true)
    (u : State) :
    gate (frameRequest q.code f role) u = gateSessioned q (frameRequest q.code f role) (onMe (heard f) u) := by
  unfold gate onMe
  rw [touchSession_frame]
  simp only [frameRequest, requestOfCode_code, hs, if_true]

/-- A taken sessioned request that the session steps answer: nothing is executed. -/
theorem requestStep_sessionStep {q : ReqName} {f : ReqFrame} {s : State} {rep : Reply} (h : TakesFrame q.code f s)
    (hs : q.sessioned f.destination = true)
    (hv : gateSessioned q (frameRequest q.code f .taker) (heardAtGate q.code f s) = (rep, heardAtGate q.code f s)) :
    requestStep q.code f s = answered q.code f rep.status rep.data ((atFs s).withMe (heard f (atFs s).me)) := by
  rw [requestStep_taken h (code_ne_capture_of_sessioned hs), gate_gateSessioned hs]
  unfold heardAtGate at hv
  rw [hv]
  exact onSp_reply rep rfl

/-- Settles O35: Session 0, a tag that is not open, and the reply cache. -/
theorem sessionGuardsSessionedRequests : Obligations.SessionGuardsSessionedRequests := by
  rintro i q f s a hi hrow rfl ht hs
  rw [exec_request hi hrow]
  have hstep := fun rep => requestStep_sessionStep (rep := rep) ht hs
  refine ⟨fun htag h0 => ?_, fun htag h0 => ?_, fun r htag h0 hseq hcache => ?_⟩
  · rw [hstep (bare .noSession) (if_pos h0), heard_of_closed htag]
    rfl
  · have hclosed : (!tagIsOpen (heardAtGate q.code f s).me f.session) = true := by
      rw [Bool.not_eq_true', Bool.eq_false_iff, Ne, tagIsOpen_iff]
      exact htag
    rw [hstep (bare .staleSession) ((if_neg h0).trans (if_pos hclosed)), heard_of_closed htag]
    rfl
  · have hopen : ¬ (!tagIsOpen (heardAtGate q.code f s).me f.session) = true := by
      rw [Bool.not_eq_true', Bool.not_eq_false, tagIsOpen_iff]
      exact htag
    have hreplay : replayOf (frameRequest q.code f .taker) (heardAtGate q.code f s).me = some r :=
      (if_pos hseq).trans hcache
    have hgate : gateSessioned q (frameRequest q.code f .taker) (heardAtGate q.code f s)
        = (replayed (frameRequest q.code f .taker) r, heardAtGate q.code f s) := by
      refine (if_neg h0).trans ((if_neg hopen).trans ?_)
      rw [hreplay]
    rw [hstep _ hgate, heard_of_open htag]
    by_cases hroom : f.room.toNat < r.data.length
    · have hshort : replayed (frameRequest q.code f .taker) r = bare .roomShort := if_pos hroom
      rw [hshort, if_pos hroom, if_pos hroom]
      rfl
    · have hcached : replayed (frameRequest q.code f .taker) r = r := if_neg hroom
      rw [hcached, if_neg hroom, if_neg hroom]

/-! ### Parameters in range, byte by byte (step 6) -/

theorem paramsOk_nodeSet_iff (r : Request) : paramsOk .nodeSet r = true
    ↔ ∃ fill gl tmo cc ml fb att clr : Byte, r.params = [fill, gl, tmo, cc, ml, fb, att, clr] ∧ gl.toNat ≤ 7 ∧ tmo ≠ 0
      ∧ 2 ≤ cc.toNat ∧ cc.toNat ≤ 7 ∧ 1 ≤ ml.toNat ∧ ml.toNat ≤ 7 ∧ att.toNat ≤ 1 ∧ clr.toNat ≤ 1 := by
  unfold paramsOk
  rw [Option.isSome_iff_exists]
  simp only [nodeSettingsOfBytes_eq_some_iff, NodeSettings.valid_iff]
  constructor
  · rintro ⟨n, ⟨hg, ht, hc2, hc7, hm1, hm7⟩, hp⟩
    have hbool : ∀ b, (boolByte b).toNat ≤ 1 := fun b => by cases b <;> decide
    exact ⟨_, _, _, _, _, _, _, _, hp, hg, ht, hc2, hc7, hm1, hm7, hbool _, hbool _⟩
  · rintro ⟨fill, gl, tmo, cc, ml, fb, att, clr, hp, hg, ht, hc2, hc7, hm1, hm7, hatt, hclr⟩
    obtain ⟨a, ha⟩ := Option.isSome_iff_exists.mp ((boolOfByte_isSome_iff att).mpr hatt)
    obtain ⟨c, hc⟩ := Option.isSome_iff_exists.mp ((boolOfByte_isSome_iff clr).mpr hclr)
    rw [(boolOfByte_eq_some_iff _ _).mp ha, (boolOfByte_eq_some_iff _ _).mp hc] at hp
    exact ⟨⟨fill, gl, tmo, cc, ml, fb, a, c⟩, ⟨hg, ht, hc2, hc7, hm1, hm7⟩, hp⟩

theorem mapM_isSome_iff {α β : Type} (g : α → Option β) (l : List α) :
    (l.mapM g).isSome = true ↔ ∀ v ∈ l, (g v).isSome = true := by
  induction l with
  | nil => simp
  | cons v l ih =>
    rw [List.forall_mem_cons, ← ih, List.mapM_cons]
    cases g v <;> cases l.mapM g <;> simp

theorem paramsOk_mapWrite_iff (r : Request) : paramsOk .mapWrite r = true
    ↔ ∃ (first : Byte) (es : List Byte), r.params = first :: es ∧ 1 ≤ es.length ∧ es.length ≤ 30 ∧ first.toNat ≤ 119
      ∧ first.toNat + es.length ≤ 120
      ∧ ∀ v ∈ es, v = 0x00 ∨ v = 0x50 ∨ v = 0x60 ∨ (1 ≤ v.toNat / 16 ∧ v.toNat / 16 ≤ 4 ∧ v.toNat % 16 < 4) := by
  unfold paramsOk writtenEntries
  rw [Bool.and_eq_true, decide_eq_true_eq, mapM_isSome_iff]
  simp only [entryOfByte_isSome_iff]
  constructor
  · rintro ⟨⟨h2, h31, h119, h120⟩, hes⟩
    match hp : r.params with
    | [] => simp [hp] at h2
    | first :: es =>
      rw [param_zero_of_params hp] at h119 h120
      rw [hp] at h2 h31 h120 hes
      rw [List.length_cons] at h2 h31 h120
      exact ⟨first, es, rfl, by omega, by omega, h119, by omega, hes⟩
  · rintro ⟨first, es, hp, h1, h30, h119, h120, hes⟩
    rw [param_zero_of_params hp, hp, List.length_cons]
    exact ⟨⟨by omega, by omega, h119, by omega⟩, hes⟩

/-- A byte that is the code of something, where a decoder knows all the codes. -/
theorem isSome_iff_exists_code {α : Type} {g : Byte → Option α} {code : α → Byte}
    (hg : ∀ v a, g v = some a ↔ v = code a) (v : Byte) : (g v).isSome = true ↔ ∃ a, v.toNat = (code a).toNat := by
  rw [Option.isSome_iff_exists]
  simp only [hg, BitVec.toNat_inj]

theorem exists_parityCode_iff (n : Nat) : (∃ p : BranchParity, n = p.code.toNat) ↔ n ≤ 2 := by
  constructor
  · rintro ⟨p, rfl⟩
    cases p <;> decide
  · intro h
    interval_cases n
    exacts [⟨.none, rfl⟩, ⟨.even, rfl⟩, ⟨.odd, rfl⟩]

theorem exists_policyCode_iff (n : Nat) : (∃ e : ErrorPolicy, n = e.code.toNat) ↔ n ≤ 1 := by
  constructor
  · rintro ⟨e, rfl⟩
    cases e <;> decide
  · intro h
    interval_cases n
    exacts [⟨.discard, rfl⟩, ⟨.hold, rfl⟩]

theorem exists_runModeCode_iff (n : Nat) : (∃ m : RunMode, n = m.code.toNat) ↔ n ≤ 1 := by
  constructor
  · rintro ⟨m, rfl⟩
    cases m <;> decide
  · intro h
    interval_cases n
    exacts [⟨.continuous, rfl⟩, ⟨.timed, rfl⟩]

theorem exists_runLengthCode_iff (n : Nat) : (∃ l : RunLength, n = l.code.toNat) ↔ n ≤ 2 := by
  constructor
  · rintro ⟨l, rfl⟩
    cases l <;> decide
  · intro h
    interval_cases n
    exacts [⟨.len256, rfl⟩, ⟨.len4096, rfl⟩, ⟨.len65535, rfl⟩]

theorem exists_actionCode_iff (n : Nat) : (∃ a : BranchAction, n = a.code.toNat) ↔ 1 ≤ n ∧ n ≤ 5 := by
  constructor
  · rintro ⟨a, rfl⟩
    cases a <;> decide
  · rintro ⟨h1, h5⟩
    interval_cases n
    exacts [⟨.enable, rfl⟩, ⟨.disable, rfl⟩, ⟨.clearHold, rfl⟩, ⟨.flushDrop, rfl⟩, ⟨.flushInsert, rfl⟩]

theorem actionOfByte_eq_some_iff (v : Byte) (a : BranchAction) : actionOfByte v = some a ↔ v = a.code := by
  constructor
  · intro h
    have := List.find?_some h
    exact (of_decide_eq_true this).symm
  · rintro rfl
    exact actionOfByte_code a

theorem actionOfByte_isSome_iff (v : Byte) : (actionOfByte v).isSome = true ↔ 1 ≤ v.toNat ∧ v.toNat ≤ 5 :=
  (isSome_iff_exists_code actionOfByte_eq_some_iff v).trans (exists_actionCode_iff _)

theorem parityOfByte_isSome_iff (v : Byte) : (parityOfByte v).isSome = true ↔ v.toNat ≤ 2 :=
  (isSome_iff_exists_code parityOfByte_eq_some_iff v).trans (exists_parityCode_iff _)

theorem policyOfByte_isSome_iff (v : Byte) : (policyOfByte v).isSome = true ↔ v.toNat ≤ 1 :=
  (isSome_iff_exists_code policyOfByte_eq_some_iff v).trans (exists_policyCode_iff _)

theorem runModeOfByte_isSome_iff (v : Byte) : (runModeOfByte v).isSome = true ↔ v.toNat ≤ 1 :=
  (isSome_iff_exists_code runModeOfByte_eq_some_iff v).trans (exists_runModeCode_iff _)

theorem runLengthOfByte_isSome_iff (v : Byte) : (runLengthOfByte v).isSome = true ↔ v.toNat ≤ 2 :=
  (isSome_iff_exists_code runLengthOfByte_eq_some_iff v).trans (exists_runLengthCode_iff _)

theorem paramsOk_testStart_bytes_iff (r : Request) : paramsOk .testStart r = true
    ↔ ∃ m l : Byte, r.params = [m, l] ∧ m.toNat ≤ 1 ∧ l.toNat ≤ 2 := by
  unfold paramsOk
  rw [Bool.and_eq_true, Bool.and_eq_true, decide_eq_true_eq, runModeOfByte_isSome_iff, runLengthOfByte_isSome_iff,
    List.length_eq_two]
  constructor
  · rintro ⟨⟨⟨m, l, hp⟩, hm⟩, hl⟩
    exact ⟨m, l, hp, param_zero_of_params hp ▸ hm, param_one_of_params hp ▸ hl⟩
  · rintro ⟨m, l, hp, hm, hl⟩
    exact ⟨⟨⟨m, l, hp⟩, (param_zero_of_params hp).symm ▸ hm⟩, (param_one_of_params hp).symm ▸ hl⟩

theorem branchConfigOfBytes_isSome_iff (bs : List Byte) : (branchConfigOfBytes bs).isSome = true
    ↔ ∃ bits par stops dHi dLo pol lvl : Byte, bs = [bits, par, stops, dHi, dLo, pol, lvl] ∧ (bits = 7 ∨ bits = 8)
      ∧ par.toNat ≤ 2 ∧ (stops = 1 ∨ stops = 2) ∧ 1 ≤ 256 * dHi.toNat + dLo.toNat
      ∧ 256 * dHi.toNat + dLo.toNat ≤ 4095 ∧ pol.toNat ≤ 1 ∧ lvl.toNat ≤ 31 := by
  constructor
  · intro h
    unfold branchConfigOfBytes at h
    split at h
    · rename_i bits par stops dHi dLo pol lvl
      split at h
      · rename_i p e hp he
        dsimp only at h
        have hrange : (bits = 0x07 ∨ bits = 0x08) ∧ (stops = 0x01 ∨ stops = 0x02) ∧ 1 ≤ (word16 dHi dLo).toNat
            ∧ (word16 dHi dLo).toNat ≤ 4095 ∧ lvl.toNat ≤ 31 := by
          by_contra hno
          rw [if_neg hno] at h
          cases h
        rw [word16_toNat] at hrange
        obtain ⟨hbits, hstops, h1, h4095, hlvl⟩ := hrange
        have hpar := (parityOfByte_isSome_iff par).mp (Option.isSome_of_eq_some hp)
        have hpol := (policyOfByte_isSome_iff pol).mp (Option.isSome_of_eq_some he)
        exact ⟨bits, par, stops, dHi, dLo, pol, lvl, rfl, hbits, hpar, hstops, h1, h4095, hpol, hlvl⟩
      · cases h
    · cases h
  · rintro ⟨bits, par, stops, dHi, dLo, pol, lvl, rfl, hbits, hpar, hstops, h1, h4095, hpol, hlvl⟩
    obtain ⟨p, hp⟩ := Option.isSome_iff_exists.mp ((parityOfByte_isSome_iff par).mpr hpar)
    obtain ⟨e, he⟩ := Option.isSome_iff_exists.mp ((policyOfByte_isSome_iff pol).mpr hpol)
    simp only [branchConfigOfBytes, hp, he, word16_toNat]
    rw [if_pos ⟨hbits, hstops, h1, h4095, hlvl⟩]
    rfl

theorem paramsOk_branchSet_bytes_iff (r : Request) : paramsOk .branchSet r = true
    ↔ ∃ b bits par stops dHi dLo pol lvl : Byte, r.params = [b, bits, par, stops, dHi, dLo, pol, lvl] ∧ b.toNat ≤ 3
      ∧ (bits = 7 ∨ bits = 8) ∧ par.toNat ≤ 2 ∧ (stops = 1 ∨ stops = 2) ∧ 1 ≤ 256 * dHi.toNat + dLo.toNat
      ∧ 256 * dHi.toNat + dLo.toNat ≤ 4095 ∧ pol.toNat ≤ 1 ∧ lvl.toNat ≤ 31 := by
  unfold paramsOk
  rw [Bool.and_eq_true, decide_eq_true_eq, branchConfigOfBytes_isSome_iff]
  constructor
  · rintro ⟨⟨hlen, hb⟩, bits, par, stops, dHi, dLo, pol, lvl, hdrop, hranges⟩
    match hp : r.params with
    | [] => simp [hp] at hlen
    | b :: rest =>
      rw [param_zero_of_params hp] at hb
      rw [hp, List.drop_one, List.tail_cons] at hdrop
      exact ⟨b, bits, par, stops, dHi, dLo, pol, lvl, by rw [hdrop], hb, hranges⟩
  · rintro ⟨b, bits, par, stops, dHi, dLo, pol, lvl, hp, hb, hranges⟩
    rw [param_zero_of_params hp, hp]
    exact ⟨⟨rfl, hb⟩, bits, par, stops, dHi, dLo, pol, lvl, rfl, hranges⟩

theorem paramsOk_branchControl_iff (r : Request) : paramsOk .branchControl r = true
    ↔ ∃ b act : Byte, r.params = [b, act] ∧ b.toNat ≤ 3 ∧ 1 ≤ act.toNat ∧ act.toNat ≤ 5 := by
  unfold paramsOk
  rw [Bool.and_eq_true, decide_eq_true_eq, actionOfByte_isSome_iff, List.length_eq_two]
  constructor
  · rintro ⟨⟨⟨b, act, hp⟩, hb⟩, hact⟩
    exact ⟨b, act, hp, param_zero_of_params hp ▸ hb, param_one_of_params hp ▸ hact⟩
  · rintro ⟨b, act, hp, hb, hact⟩
    exact ⟨⟨⟨b, act, hp⟩, (param_zero_of_params hp).symm ▸ hb⟩, (param_one_of_params hp).symm ▸ hact⟩

theorem paramsOk_testSet_iff (r : Request) : paramsOk .testSet r = true
    ↔ ∃ g gp k kp hi lo th : Byte, r.params = [g, gp, k, kp, hi, lo, th] ∧ g.toNat ≤ 1 ∧ gp.toNat ≤ 3 ∧ k.toNat ≤ 1
      ∧ kp.toNat ≤ 3 ∧ 2 ≤ th.toNat ∧ th.toNat ≤ 8 := patternConfigOfBytes_isSome_iff r.params

/-! ### A Code that names no request (step 1) -/

theorem requestOfCode_eq_none_iff (code : Byte) : requestOfCode code = none ↔ ∀ q : ReqName, q.code ≠ code := by
  constructor
  · rintro hnone q rfl
    rw [requestOfCode_code] at hnone
    cases hnone
  · exact fun hno => List.find?_eq_none.mpr fun q _ => by simp [hno q]

/-- A taken frame whose Code names no request is answered BAD_CODE (R122). -/
theorem requestStep_badCode {code : Byte} {f : ReqFrame} {s : State} (h : TakesFrame code f s)
    (hno : ∀ q : ReqName, q.code ≠ code) :
    requestStep code f s = answered code f .badCode [] ((atFs s).withMe (heard f (atFs s).me)) := by
  have hgate : gate (frameRequest code f .taker) (atGate code f s) = (bare .badCode, heardAtGate code f s) := by
    unfold gate
    rw [onMe_touchSession]
    simp only [frameRequest, (requestOfCode_eq_none_iff code).mpr hno]
  rw [requestStep_taken h (fun hc => hno .capture hc.symm), hgate]
  exact onSp_reply (bare .badCode) rfl

/-- Settles O36: the three refusals, then the room and the ranges of every request. -/
theorem gateRefuses : Obligations.GateRefuses := by
  refine ⟨?badCode, ?refused, ?room, ?ranges⟩
  case badCode =>
    rintro code f s a rfl ht hno
    have hrow : (Instr.unknownRequest code f).inRow = true := by
      rw [Instr.inRow, (requestOfCode_eq_none_iff code).mpr hno]
      rfl
    have hexec : exec (.unknownRequest code f) s = .next (requestStep code f s) := congrArg _ (if_pos hrow)
    rw [hexec, requestStep_badCode ht hno]
  case refused =>
    rintro i q f s a after hi hrow rfl hq ht hpass hafter
    have hc : q.code ≠ ReqName.code .capture := fun h => hq (ReqName.code_injective h)
    rw [exec_request hi hrow, hafter, hafter]
    cases hs : q.sessioned f.destination with
    | true =>
      have hses := hpass hs
      exact ⟨fun hr => congrArg _ (requestStep_sessioned_roomShort ht hc hs hses hr),
        fun hr hp => congrArg _ (requestStep_sessioned_badParam ht hc hs hses hr hp)⟩
    | false =>
      exact ⟨fun hr => congrArg _ (requestStep_sessionless_roomShort ht hc hs hr),
        fun hr hp => congrArg _ (requestStep_sessionless_badParam ht hc hs hr hp)⟩
  case room =>
    intro q r
    cases q <;> rfl
  case ranges =>
    intro q r
    cases q with
    | identify | closeSession | keep | nodeGet | restart | mapCopy | mapCheck => exact paramsOk_bare_iff (by simp) r
    | disarm | switchStatus | poll | testStop | testStatus => exact paramsOk_bare_iff (by simp) r
    | assign => exact paramsOk_assign_iff r
    | openSession => exact paramsOk_openSession_iff r
    | nodeSet => exact paramsOk_nodeSet_iff r
    | mapRead => exact paramsOk_mapRead_iff r
    | mapWrite => exact paramsOk_mapWrite_iff r
    | mapLength => exact paramsOk_mapLength_iff r
    | arm => exact paramsOk_arm_iff r
    | branchGet => exact paramsOk_branchGet_iff r
    | branchSet => exact paramsOk_branchSet_bytes_iff r
    | branchControl => exact paramsOk_branchControl_iff r
    | ack => exact paramsOk_ack_iff r
    | testSet => exact paramsOk_testSet_iff r
    | testStart => exact paramsOk_testStart_bytes_iff r
    | capture => exact paramsOk_capture_iff r
    | readCounters => exact paramsOk_readCounters_iff r

end Sys2Proof.Machine
end

section
/-!
The Service Port: how a frame begins and ends, and what a part does that is no taker (R106 to R108, R112, R113, R115).
-/

namespace Sys2Proof.Machine

/-! ### Frame notices -/

/-- A frame's end or abort with no RESTART to carry out: the increments of the instant alone (R135). -/
theorem frameNotice_plain {notice : Bool} {s : State} (h : notice = false ∨ s.me.deferredRestart = false)
    (incs : List CounterIx) : frameNotice notice incs s = countAll incs s := by
  refine if_neg fun hr => ?_
  rw [Bool.and_eq_true] at hr
  rcases h with h | h
  · exact Bool.noConfusion (h ▸ hr.1)
  · exact Bool.noConfusion (h ▸ hr.2)

/-- The FS of a frame sets the context afresh (R106). -/
theorem atFs_sp (s : State) : (atFs s).sp = beginContext s.sp := by
  unfold atFs serviceElement
  split
  · exact (countAll_frame _ _).2.1
  · exact (frameNotice_frame _ _ _).2.2.2.1

/-! ### The role at the claim byte -/

/-- The claim byte's table (R108), with the part's own address as one condition. -/
theorem decideRole_eq {destination code claim address : Byte} {own : Prop} [Decidable own]
    (hown : own ↔ destination = address ∧ 1 ≤ address.toNat ∧ address.toNat ≤ 239) :
    decideRole destination code claim address =
      if destination = 0xFF then .broadcast
      else if own ∧ claim = 0x00 then .taker
      else if own ∧ claim = 0xC1 then .duplicate
      else if (destination = 0 ∧ code = 0x02 ∧ address = 0) ∧ claim = 0x00 then .taker
      else .bystander := by
  unfold decideRole
  simp only [hown, and_assoc]
  rfl

theorem decideRole_iff {destination code claim address : Byte} {own : Prop}
    (hown : own ↔ destination = address ∧ 1 ≤ address.toNat ∧ address.toNat ≤ 239) :
    (decideRole destination code claim address = .broadcast ↔ destination = 0xFF)
    ∧ (decideRole destination code claim address = .taker
        ↔ claim = 0x00 ∧ (own ∨ (destination = 0 ∧ code = 0x02 ∧ address = 0)))
    ∧ (decideRole destination code claim address = .duplicate ↔ own ∧ claim = 0xC1)
    ∧ decideRole destination code claim address ≠ .none := by
  classical
  have hnotAll : own → destination ≠ 0xFF := by
    rintro h rfl
    obtain ⟨rfl, -, h239⟩ := hown.mp h
    exact absurd h239 (by decide)
  have hclaims : claim = 0xC1 → claim ≠ 0x00 := by
    rintro rfl
    decide
  rw [decideRole_eq hown]
  split_ifs with hall htaker hdup hzero
  · have hno : ¬ own := fun h => hnotAll h hall
    have hzero : destination ≠ 0 := by rw [hall]; decide
    exact ⟨iff_of_true rfl hall, iff_of_false nofun fun h => h.2.elim hno fun h0 => hzero h0.1,
      iff_of_false nofun fun h => hno h.1, nofun⟩
  · exact ⟨iff_of_false nofun hall, iff_of_true rfl ⟨htaker.2, .inl htaker.1⟩,
      iff_of_false nofun fun h => hclaims h.2 htaker.2, nofun⟩
  · exact ⟨iff_of_false nofun hall, iff_of_false nofun fun h => hclaims hdup.2 h.1, iff_of_true rfl hdup, nofun⟩
  · exact ⟨iff_of_false nofun hall, iff_of_true rfl ⟨hzero.2, .inr hzero.1⟩, iff_of_false nofun hdup, nofun⟩
  · exact ⟨iff_of_false nofun hall, iff_of_false nofun fun h =>
      h.2.elim (fun ho => htaker ⟨ho, h.1⟩) fun h0 => hzero ⟨h0, h.1⟩, iff_of_false nofun hdup, nofun⟩

/-! ### A part that is no taker, and a malformed frame -/

/-- The row of a frame, whether its Code names a request or none. -/
theorem exec_frame {i : Instr} {code : Byte} {f : ReqFrame}
    (h : (∃ q : ReqName, i.request = some (q, f) ∧ i.inRow = true ∧ code = q.code)
      ∨ (i = .unknownRequest code f ∧ ∀ q : ReqName, q.code ≠ code)) (s : State) :
    exec i s = .next (requestStep code f s) := by
  rcases h with ⟨q, hi, hrow, rfl⟩ | ⟨rfl, hno⟩
  · exact exec_request hi hrow s
  · have hrow : (Instr.unknownRequest code f).inRow = true := by
      rw [Instr.inRow, (requestOfCode_eq_none_iff code).mpr hno]
      rfl
    exact congrArg _ (if_pos hrow)

/-- A malformed frame is abandoned at its Room or its Length (R107). -/
theorem requestStep_malformed {code : Byte} {f : ReqFrame} {s : State} (hr : s.inReset = false)
    (hl : s.ct.lock = .locked) (h : 32 < f.room.toNat ∨ 32 < f.params.length) : requestStep code f s
      = (count 7 (atFs s)).withSp (endContext (malformedContext code f (atFs s).sp)) := by
  have hrun : ¬(s.inReset = true ∨ s.ct.lock ≠ .locked) := by simp [hr, hl]
  have hexecuted : (malformedContext code f (atFs s).sp).executed = false := by
    rw [atFs_sp]
    rfl
  unfold requestStep
  rw [if_neg hrun, if_pos h]
  exact frameNotice_plain (.inl hexecuted) _

/-- Settles O34: the claim byte's table, and the four parts that execute nothing. -/
theorem othersExecuteNothing : Obligations.OthersExecuteNothing := by
  refine ⟨fun destination code claim address own hown => decideRole_iff hown, ?_⟩
  rintro i code f s a hi rfl
  rw [exec_frame hi]
  refine ⟨fun h => congrArg _ (if_pos h), fun hr hl hbad => congrArg _ ?_, fun h => congrArg _ ?_,
    fun h hcode => congrArg _ ?_, fun h => congrArg _ ?_⟩
  · rw [requestStep_malformed hr hl hbad]
    unfold malformedContext endContext coveredBytes
    split <;> rfl
  · rw [requestStep_role h]
    rfl
  · rw [requestStep_role h]
    exact if_neg fun hcapture => hcode hcapture.2
  · have hcycle : cycleField ((atFs s).withSp (frameContext code f .duplicate)) = (atFs s).ct.cycle :=
      if_pos ((atFs_frame s).1 ▸ h.locked)
    rw [requestStep_role h, atCheck, post, hcycle]
    rfl

end Sys2Proof.Machine
end

section
/-!
The service channel of a locked part: FS, the elements between frames, the end of a frame, and a request check that
fails (R105, R106, R111 to R113, R115, R116, R118).
-/

namespace Sys2Proof.Machine

/-! ### SERVICE slots -/

/-- A SERVICE slot hands its character to the Service Port and sends what it returns (R49). -/
theorem exec_serviceSlot {i : SlotIx} {s : State} (h : AtSlot i .service s) (ch : TrunkBits) :
    exec (.trunkCharacterReceived ch) s = .next (slotAnswered i ch (serviceElement (classify ch) (damageCounts ch) s).1
      (serviceElement (classify ch) (damageCounts ch) s).2) := by
  rw [exec_slot h]
  unfold slotStep damageCounts
  rw [h.entry]
  rfl

theorem damageCounts_undamaged {ch : TrunkBits} (h : classify ch ≠ .damaged) : damageCounts ch = [] := if_neg h

/-! ### Increments and the frame in passage -/

theorem countAll_withSp (is : List CounterIx) (c : FrameContext) (s : State) :
    countAll is (s.withSp c) = (countAll is s).withSp c := by
  induction is generalizing s with
  | nil => rfl
  | cons i is ih => exact ih (count i s)

theorem countAll_append (is js : List CounterIx) (s : State) : countAll (is ++ js) s = countAll js (countAll is s) :=
  List.foldl_append

/-- A frame carries no executed RESTART that its end would carry out (R135). -/
def NoRestart (s : State) : Prop := s.sp.executed = false ∨ s.me.deferredRestart = false

/-- An abort with no RESTART to carry out (R115). -/
theorem abortFrame_plain {s : State} (h : NoRestart s) (is : List CounterIx) :
    abortFrame is s = (count 7 (countAll is s)).withSp (endContext s.sp) := by
  unfold abortFrame onSp
  rw [frameNotice_plain (by exact h), countAll_withSp, countAll_append]
  rfl

theorem abortByFs_plain {s : State} (h : NoRestart s) (is : List CounterIx) :
    abortByFs is s = (count 4 (count 7 (countAll is s))).withSp (beginContext s.sp) := by
  unfold abortByFs onSp
  rw [frameNotice_plain (by exact h), countAll_withSp, countAll_append]
  rfl

theorem completeFrame_plain {s : State} (h : NoRestart s) : completeFrame s = s.withSp (endContext s.sp) :=
  frameNotice_plain (by exact h) _

/-! ### Elements by their kind -/

theorem serviceElement_idle {s : State} (h : s.sp.parser = .idle) (ch : TrunkChar) (is : List CounterIx) :
    serviceElement ch is s = idleElement ch is s := if_pos h

theorem serviceElement_frame {s : State} (h : s.sp.parser ≠ .idle) (ch : TrunkChar) (is : List CounterIx) :
    serviceElement ch is s = frameElement ch is s := if_neg h

/-- A sync code, SIDLE, a stray mark or a damaged character: what the service channel sends as SIDLE (R106, R115). -/
def IsOther (ch : TrunkChar) : Prop := ch ≠ .fs ∧ ch ≠ .fe ∧ ∀ v, ch ≠ .plain v

theorem idleElement_other {ch : TrunkChar} (h : IsOther ch) (is : List CounterIx) (s : State) :
    idleElement ch is s = (sidleOut, countAll is s) := by
  obtain ⟨hfs, hfe, hplain⟩ := h
  cases ch with
  | fs => exact absurd rfl hfs
  | fe => exact absurd rfl hfe
  | plain v => exact absurd rfl (hplain v)
  | sidle | sync | syncA | stray v | damaged => rfl

theorem frameElement_other {ch : TrunkChar} (h : IsOther ch) (is : List CounterIx) (s : State) :
    frameElement ch is s = (sidleOut, abortFrame is s) := by
  obtain ⟨hfs, hfe, hplain⟩ := h
  cases ch with
  | fs => exact absurd rfl hfs
  | fe => exact absurd rfl hfe
  | plain v => exact absurd rfl (hplain v)
  | sidle | sync | syncA | stray v | damaged => rfl

/-- The character an FS is sent as, and the state it leaves. -/
theorem serviceElement_fs (s : State) : serviceElement .fs [] s = ({ mark := true, data := 0x51 }, atFs s) := by
  unfold atFs serviceElement
  split <;> rfl

/-! ### FS with a RESTART to carry out -/

/-- The Event Queue right after RESTART is carried out, where no branch character completes at its instant (R147). -/
theorem frameNotice_restart_eq {s : State} (hdue : s.me.deferredRestart = true) (hnone : NoneBehind s)
    (is : List CounterIx) : (frameNotice true is s).eq = EventQueue.restarted .request
      (decide (s.mu.switch.state = .armed)) (cycleField s) := by
  unfold frameNotice
  rw [hdue, (racing_of_none hnone).2.2]
  exact (carryOutRestart_frame is s).2.2.2.2.2.2.2.2.2

theorem frameNotice_restart_me {s : State} (hdue : s.me.deferredRestart = true) (is : List CounterIx) :
    (frameNotice true is s).me = { closed s.me with restartCause := .request, deferredRestart := false } := by
  unfold frameNotice
  rw [hdue]
  exact (postTogether_frame _ _).1.trans (carryOutRestart_frame is s).2.2.2.2.2.1

theorem atFs_idle {s : State} (h : s.sp.parser = .idle) : atFs s = (count 4 s).withSp (beginContext s.sp) := by
  unfold atFs
  rw [serviceElement_idle h]
  rfl

theorem atFs_frameNotice {s : State} (h : s.sp.parser ≠ .idle) :
    atFs s = frameNotice s.sp.executed [7, 4] (s.withSp (beginContext s.sp)) := by
  unfold atFs
  rw [serviceElement_frame h]
  rfl

/-! ### A request check that fails -/

theorem serviceElement_badCheck {s : State} {v : Byte} (hp : s.sp.parser = .reqCheck) (hplace : s.sp.place = 1)
    (hbad : s.sp.runningCheck ≠ s.sp.checkHigh.getD 0 ++ v) : serviceElement (.plain v) [] s
      = ({ mark := false, data := v },
          atCheck false s.sp.role (contextRequest s.sp) (s.withSp (checkTaken v s.sp))) := by
  have hframe : s.sp.parser ≠ .idle := by rw [hp]; decide
  have hcheck : decide (s.sp.runningCheck = word16 (s.sp.checkHigh.getD 0) v) = false := decide_eq_false hbad
  rw [serviceElement_frame hframe]
  unfold frameElement takePlain
  simp only [countAll, List.foldl_nil, hp]
  unfold takeCheck
  rw [if_neg (by rw [hplace]; decide), hcheck]
  rfl

/-- Settles O31: FS, between frames, the end of a frame, and the failed check. -/
theorem fsBeginsAFrame : Obligations.FsBeginsAFrame := by
  rintro s _ rfl
  refine ⟨fun ch i h hfs => ?_, fun h => atFs_idle h, fun h hno => ?_, fun h hexec hdue => ?_,
    fun ch i sidle ended c hat hsidle hended hc => ⟨fun hidle => ⟨fun v hv => ?_, fun hfe => ?_,
        fun hfs hfe hplain => ?_⟩,
      fun hframe hno => ⟨fun hfe => ?_, fun hfs hfe hplain => ?_, fun v hfinish hv => ?_⟩,
      fun v hp hplace hv hbad => ⟨fun hrole => ?_, fun hrole => ?_, fun hrole => ?_⟩⟩⟩
  · rw [exec_serviceSlot h, damageCounts_undamaged (by rw [hfs]; nofun), hfs, serviceElement_fs]
  · unfold atFs
    rw [serviceElement_frame h]
    exact abortByFs_plain hno []
  · rw [atFs_frameNotice h, hexec]
    obtain ⟨hct, htrunk, hreset, hsp, -, -⟩ := frameNotice_frame true [7, 4] (s.withSp (beginContext s.sp))
    refine ⟨hsp, hct, htrunk, frameNotice_restart_me (s := s.withSp (beginContext s.sp)) hdue _, fun hnone => ?_⟩
    rw [frameNotice_restart_eq (s := s.withSp (beginContext s.sp)) hdue hnone]
    unfold EventQueue.restarted
    simp only [decide_eq_true_eq]
    rfl
  · rw [exec_serviceSlot hat, damageCounts_undamaged (by rw [hv]; nofun), hv, serviceElement_idle hidle]
    rfl
  · rw [exec_serviceSlot hat, damageCounts_undamaged (by rw [hfe]; nofun), hfe, serviceElement_idle hidle]
    rfl
  · rw [exec_serviceSlot hat, serviceElement_idle hidle, idleElement_other ⟨hfs, hfe, hplain⟩, countAll_damageCounts,
      hsidle, hc]
    rfl
  · rw [exec_serviceSlot hat, damageCounts_undamaged (by rw [hfe]; nofun), hfe, serviceElement_frame hframe, hended]
    unfold frameElement
    by_cases hfinish : s.sp.parser = .finish
    · simp only [hfinish, if_true]
      rw [completeFrame_plain (s := countAll [] s) hno]
      rfl
    · simp only [hfinish, if_false]
      rw [abortFrame_plain hno]
      rfl
  · rw [exec_serviceSlot hat, serviceElement_frame hframe, frameElement_other ⟨hfs, hfe, hplain⟩, abortFrame_plain hno,
      countAll_damageCounts, hsidle, hc, hended]
    rfl
  · rw [exec_serviceSlot hat, damageCounts_undamaged (by rw [hv]; nofun), hv, serviceElement_frame hframe, hended]
    unfold frameElement takePlain
    simp only [countAll, List.foldl_nil, hfinish]
    rw [abortFrame_plain hno]
    rfl
  · rw [exec_serviceSlot hat, damageCounts_undamaged (by rw [hv]; nofun), hv, serviceElement_badCheck hp hplace hbad,
      hrole]
    rfl
  · have hcycle : cycleField (s.withSp (checkTaken v s.sp)) = s.ct.cycle := if_pos hat.locked
    rw [exec_serviceSlot hat, damageCounts_undamaged (by rw [hv]; nofun), hv, serviceElement_badCheck hp hplace hbad,
        hrole,
      atCheck, post, hcycle]
    rfl
  · rw [exec_serviceSlot hat, damageCounts_undamaged (by rw [hv]; nofun), hv, serviceElement_badCheck hp hplace hbad]
    rcases hrole with hrole | hrole
    · rw [hrole]
      rfl
    · rw [hrole]
      rfl

end Sys2Proof.Machine
end

section
/-!
Frames on the line, character by character: the request section as it is parsed, and the reply section as it is written
(R102, R104, R107 to R114).
-/

namespace Sys2Proof.Machine

/-! ### Runs of service channel elements -/

/-- A run of service channel elements, with what is sent for each and the state it leaves. -/
inductive Carries : List TrunkChar → State → List OutChar → State → Prop
  | nil (s : State) : Carries [] s [] s
  | cons {ch : TrunkChar} {chs : List TrunkChar} {s t u : State} {o : OutChar} {os : List OutChar}
      (first : serviceElement ch [] s = (o, t)) (rest : Carries chs t os u) : Carries (ch :: chs) s (o :: os) u

theorem Carries.append {chs chs' : List TrunkChar} {s t u : State} {os os' : List OutChar} (h : Carries chs s os t)
    (h' : Carries chs' t os' u) : Carries (chs ++ chs') s (os ++ os') u := by
  induction h with
  | nil s => exact h'
  | cons first _ ih => exact .cons first (ih h')

theorem Carries.serviceElements {chs : List TrunkChar} {s t : State} {os : List OutChar} (h : Carries chs s os t) :
    serviceElements chs s = t := by
  induction h with
  | nil s => rfl
  | @cons ch chs s t u o os first _ ih =>
    have hstep : Machine.serviceElements (ch :: chs) s = Machine.serviceElements chs (serviceElement ch [] s).2 := rfl
    rw [hstep, first, ih]

theorem Carries.outs {chs : List TrunkChar} {s t : State} {os : List OutChar} (h : Carries chs s os t)
    {outs : List TrunkChar → State → List OutChar} (hnil : ∀ t, outs [] t = [])
    (hcons : ∀ c cs t, outs (c :: cs) t = (serviceElement c [] t).1 :: outs cs (serviceElement c [] t).2) :
    outs chs s = os := by
  induction h with
  | nil s => exact hnil s
  | cons first _ ih => rw [hcons, first, ih]

theorem serviceElement_plain {s : State} (h : s.sp.parser ≠ .idle) (v : Byte) :
    serviceElement (.plain v) [] s = takePlain v s := serviceElement_frame h _ _

/-- Between frames plain characters go on and nothing happens (R106). -/
theorem carries_idle {s : State} (h : s.sp.parser = .idle) (vs : List Byte) :
    Carries (vs.map .plain) s (vs.map (OutChar.mk false)) s := by
  induction vs with
  | nil => exact .nil s
  | cons v vs ih => exact .cons (serviceElement_idle h _ _) ih

/-! ### The reply section -/

/-- A frame in its reply section, at a place of it. -/
def inReply (k : Nat) (s : State) : State := s.withSp { s.sp with parser := .reply, place := k }

/-- A frame whose reply section is over: FE comes next. -/
def atFinish (s : State) : State := s.withSp { s.sp with parser := .finish, place := 0 }

theorem takePlain_inReply (v : Byte) (k : Nat) (s : State) : takePlain v (inReply k s)
    = (plainOut (replyOutput v (inReply k s).sp), if k + 1 = roomOf s.sp + 4 then atFinish s else inReply
        (k + 1) s) := by
  have hplain : takePlain v (inReply k s) = (plainOut (replyOutput v (inReply k s).sp), onSp takeReply
      (inReply k s)) := rfl
  have hroom : roomOf (inReply k s).sp = roomOf s.sp := rfl
  have hplace : (inReply k s).sp.place = k := rfl
  rw [hplain]
  unfold onSp takeReply
  rw [hroom, hplace]
  split <;> rfl

/-- The reply section on the line, each character sent as the reply it stands for gives (R107, R114). -/
theorem carries_reply {s : State} {sent : Nat → Byte → Byte} (hsent : ∀ k v, replyOutput v (inReply k s).sp = sent k v)
    (rs : List Byte) (k : Nat) (hne : rs ≠ []) (hlen : k + rs.length = roomOf s.sp + 4) :
    Carries (rs.map .plain) (inReply k s) ((rs.mapIdx fun i v => sent (k + i) v).map (OutChar.mk false))
        (atFinish s) := by
  induction rs generalizing k with
  | nil => exact absurd rfl hne
  | cons v rs ih =>
    have hstep : serviceElement (.plain v) [] (inReply k s) = _ :=
      (serviceElement_plain (by unfold inReply; nofun) v).trans (takePlain_inReply v k s)
    rw [hsent] at hstep
    rw [List.mapIdx_cons]
    rw [List.length_cons] at hlen
    refine .cons hstep ?_
    by_cases hrs : rs = []
    · subst hrs
      rw [if_pos (by simpa using hlen)]
      exact .nil _
    · have hpos : 0 < rs.length := List.length_pos_of_ne_nil hrs
      rw [if_neg (by omega)]
      have := ih (k + 1) hrs (by omega)
      simpa only [Nat.add_assoc, Nat.add_comm 1] using this

/-- Settles O33: the two turnaround characters, then the reply section written or let pass. -/
theorem replySectionIsWritten : Obligations.ReplySectionIsWritten := by
  intro s turn received outs hparser hplace hturn hreceived hnil hcons
  obtain ⟨t₀, t₁, rfl⟩ := List.length_eq_two.mp hturn
  have hne : received ≠ [] := fun h => by simp [h] at hreceived
  have hfirst : serviceElement (.plain t₀) [] s = ({ mark := false, data := t₀ }, s.withSp
      { s.sp with place := 1 }) := by
    rw [serviceElement_plain (by rw [hparser]; nofun)]
    unfold takePlain onSp takeTurn
    simp only [hparser, hplace]
    rfl
  have hsecond : serviceElement (.plain t₁) [] (s.withSp { s.sp with place := 1 })
      = ({ mark := false, data := t₁ }, inReply 0 s) := by
    rw [serviceElement_plain (by rw [State.withSp_sp, hparser]; nofun)]
    unfold takePlain onSp takeTurn
    simp only [State.withSp_sp, hparser]
    rfl
  have hall : ∀ sent : Nat → Byte → Byte, (∀ k v, replyOutput v (inReply k s).sp = sent k v) →
      Carries (([t₀, t₁] ++ received).map .plain) s
        (([t₀, t₁] ++ received.mapIdx sent).map (OutChar.mk false)) (atFinish s) := fun sent hsent => by
    have hreply := carries_reply hsent received 0 hne (by omega)
    simp only [Nat.zero_add] at hreply
    exact .cons hfirst (.cons hsecond hreply)
  refine ⟨fun p hrole hp hdata => ?_, fun hrole => ?_, ?_⟩
  · have hsent : ∀ k v, replyOutput v (inReply k s).sp = (replySection p).getD k 0 := fun k v => by
      unfold replyOutput inReply
      simp only [State.withSp_sp, hrole, if_true, hp]
    have hlen : (replySection p).length = received.length := by
      simp only [replySection, List.length_cons, List.length_append, List.length_nil, hdata, hreceived]
    have hwritten : received.mapIdx (fun k _ => (replySection p).getD k 0) = replySection p :=
      List.ext_getElem (by simp [hlen]) fun k h₁ h₂ => by
        rw [List.getElem_mapIdx, List.getD_eq_getElem _ _ h₂]
    have := (hall _ hsent).outs hnil hcons
    rwa [hwritten] at this
  · have hsent : ∀ k v, replyOutput v (inReply k s).sp = v := fun k v => by
      have hno : ¬(s.sp.role = .taker ∨ s.sp.role = .duplicate) := by
        rcases hrole with h | h <;> rw [h] <;> decide
      exact if_neg hno
    have hpassed : received.mapIdx (fun _ v => v) = received :=
      List.ext_getElem (by simp) fun k h₁ h₂ => List.getElem_mapIdx
    have := (hall _ hsent).outs hnil hcons
    rwa [hpassed] at this
  · exact (hall _ fun _ _ => rfl).serviceElements

end Sys2Proof.Machine
end

section
/-!
The request section of a frame on the line: its header, its parameters and its request check, and what a Room or a
Length above 32 makes of it (R104, R107 to R113).
-/

namespace Sys2Proof.Machine

/-! ### The contexts of a frame in its request section -/

/-- The context after the bytes from Destination to Sequence (R107, R108). -/
def afterSequence (code : Byte) (f : ReqFrame) (role : Role) (c : FrameContext) : FrameContext :=
  { beginContext c with
    place := 6, role := role, destination := some f.destination, code := some code, claim := some f.claim
    controller := some f.controller, session := some f.session, sequence := some f.sequence
    runningCheck := crc16 [f.destination, code, f.controller, f.session, f.sequence] }

/-- The context after Room. -/
def afterRoom (code : Byte) (f : ReqFrame) (role : Role) (c : FrameContext) : FrameContext :=
  { afterSequence code f role c with
    place := 7, room := some f.room
    runningCheck := crc16 [f.destination, code, f.controller, f.session, f.sequence, f.room] }

/-- The bytes of the header that the request check covers (R104). -/
def headerBytes (code : Byte) (f : ReqFrame) : List Byte :=
  [f.destination, code, f.controller, f.session, f.sequence, f.room, natByte f.params.length]

theorem crcFrom_nil (r : Word16) : crcFrom r [] = r := rfl

theorem crcFrom_singleton (r : Word16) (v : Byte) : crcFrom r [v] = crcByte r v := rfl

theorem crc16_append (vs ws : List Byte) : crc16 (vs ++ ws) = crcFrom (crc16 vs) ws := by
  unfold crc16 crcFrom
  exact List.foldl_append

theorem crc16_headerBytes (code : Byte) (f : ReqFrame) : crc16 (headerBytes code f)
    = crcByte (crc16 [f.destination, code, f.controller, f.session, f.sequence, f.room]) (natByte f.params.length) := by
  have hbytes : headerBytes code f = [f.destination, code, f.controller, f.session, f.sequence, f.room]
      ++ [natByte f.params.length] := rfl
  rw [hbytes, crc16_append, crcFrom_singleton]

/-- The request check runs over the header and then over the parameters (R104). -/
theorem requestCheck_eq (code : Byte) (f : ReqFrame) :
    requestCheck code f = crcFrom (crc16 (headerBytes code f)) f.params := by
  have hbytes : coveredBytes code f = headerBytes code f ++ f.params := rfl
  rw [requestCheck, hbytes, crc16_append]

/-- The context after Length and the parameters so far, with its running check (R107). -/
def inParams (code : Byte) (f : ReqFrame) (role : Role) (c : FrameContext) (done : List Byte) (r : Word16) :
    FrameContext :=
  { afterRoom code f role c with
    parser := .params, place := done.length, length := some (natByte f.params.length), params := done
    runningCheck := r }

/-- The context once the last parameter is in, with its running check: the request check comes next. -/
def atReqCheck (code : Byte) (f : ReqFrame) (role : Role) (c : FrameContext) (r : Word16) : FrameContext :=
  { inParams code f role c f.params r with parser := .reqCheck, place := 0 }

/-! ### One character of the header -/

section Header
variable {d : FrameContext} {a : State} (hp : d.parser = .header) (v : Byte)
include hp

theorem serviceElement_header : serviceElement (.plain v) [] (a.withSp d) = takeHeader v (a.withSp d) := by
  rw [serviceElement_plain (by rw [State.withSp_sp, hp]; nofun)]
  unfold takePlain
  simp only [State.withSp_sp, hp]

/-- A header byte that the context keeps and the request check covers (R104, R107). -/
theorem serviceElement_destination (h : d.place = 0) : serviceElement (.plain v) [] (a.withSp d)
    = ({ mark := false, data := v }, a.withSp { coverByte v d with destination := some v }) := by
  rw [serviceElement_header hp, takeHeader]
  simp only [State.withSp_sp, h]
  rfl

theorem serviceElement_code (h : d.place = 1) : serviceElement (.plain v) [] (a.withSp d)
    = ({ mark := false, data := v }, a.withSp { coverByte v d with code := some v }) := by
  rw [serviceElement_header hp, takeHeader]
  simp only [State.withSp_sp, h]
  rfl

/-- The Claim, which the request check leaves out: the role, and CLAIMED in place of a taker's (R104, R108, R109). -/
theorem serviceElement_claim (h : d.place = 2) {role : Role}
    (hrole : role = decideRole (d.destination.getD 0) (d.code.getD 0) v a.me.address) :
    serviceElement (.plain v) [] (a.withSp d) = ({ mark := false, data := if role = .taker then 0xC1 else v },
      a.withSp { d with place := 3, claim := some v, role := role }) := by
  rw [serviceElement_header hp, takeHeader]
  simp only [State.withSp_sp, h, State.withSp_me, ← hrole]
  unfold onSp
  simp only [State.withSp_sp, h]
  rfl

theorem serviceElement_controller (h : d.place = 3) : serviceElement (.plain v) [] (a.withSp d)
    = ({ mark := false, data := v }, a.withSp { coverByte v d with controller := some v }) := by
  rw [serviceElement_header hp, takeHeader]
  simp only [State.withSp_sp, h]
  rfl

theorem serviceElement_session (h : d.place = 4) : serviceElement (.plain v) [] (a.withSp d)
    = ({ mark := false, data := v }, a.withSp { coverByte v d with session := some v }) := by
  rw [serviceElement_header hp, takeHeader]
  simp only [State.withSp_sp, h]
  rfl

theorem serviceElement_sequence (h : d.place = 5) : serviceElement (.plain v) [] (a.withSp d)
    = ({ mark := false, data := v }, a.withSp { coverByte v d with sequence := some v }) := by
  rw [serviceElement_header hp, takeHeader]
  simp only [State.withSp_sp, h]
  rfl

theorem serviceElement_room (h : d.place = 6) (hv : v.toNat ≤ 32) : serviceElement (.plain v) [] (a.withSp d)
    = ({ mark := false, data := v }, a.withSp { coverByte v d with room := some v }) := by
  rw [serviceElement_header hp, takeHeader]
  simp only [State.withSp_sp, h]
  exact if_neg (by omega)

theorem serviceElement_roomTooLong (h : d.place = 6) (hv : 32 < v.toNat) : serviceElement (.plain v) [] (a.withSp d)
    = ({ mark := false, data := v }, abortFrame [] (a.withSp d)) := by
  rw [serviceElement_header hp, takeHeader]
  simp only [State.withSp_sp, h]
  exact if_pos hv

theorem serviceElement_length (h : d.place = 7) (hv : v.toNat ≤ 32) : serviceElement (.plain v) [] (a.withSp d)
    = ({ mark := false, data := v }, a.withSp (afterLength v d)) := by
  rw [serviceElement_header hp, takeHeader]
  simp only [State.withSp_sp, h]
  exact if_neg (by omega)

theorem serviceElement_lengthTooLong (h : d.place = 7) (hv : 32 < v.toNat) : serviceElement (.plain v) [] (a.withSp d)
    = ({ mark := false, data := v }, abortFrame [] (a.withSp d)) := by
  rw [serviceElement_header hp, takeHeader]
  simp only [State.withSp_sp, h]
  exact if_pos hv

end Header

/-- The second request check character, at which the checks are compared (R104). -/
theorem serviceElement_secondCheck {d : FrameContext} {a : State} (hp : d.parser = .reqCheck) (hplace : d.place = 1)
    (v : Byte) : serviceElement (.plain v) [] (a.withSp d) = ({ mark := false, data := v },
      atCheck (decide (d.runningCheck = word16 (d.checkHigh.getD 0) v)) d.role (contextRequest d)
        (a.withSp (checkTaken v d))) := by
  rw [serviceElement_plain (by rw [State.withSp_sp, hp]; nofun)]
  unfold takePlain
  simp only [State.withSp_sp, hp]
  unfold takeCheck
  rw [if_neg (by rw [State.withSp_sp, hplace]; decide)]
  rfl

section Request
variable {code : Byte} {f : ReqFrame} {a : State} {c : FrameContext} {role : Role} {claim : Byte}

/-- The six bytes up to Sequence, of which the Claim of a taker goes on as CLAIMED (R108, R109). -/
theorem carries_header (hrole : role = decideRole f.destination code f.claim a.me.address)
    (hclaim : claim = if role = .taker then 0xC1 else f.claim) :
    Carries ([f.destination, code, f.claim, f.controller, f.session, f.sequence].map .plain) (a.withSp (beginContext c))
      ([f.destination, code, claim, f.controller, f.session, f.sequence].map (OutChar.mk false))
      (a.withSp (afterSequence code f role c)) := by
  rw [hclaim]
  exact .cons (serviceElement_destination rfl _ rfl) (.cons (serviceElement_code rfl _ rfl)
    (.cons (serviceElement_claim rfl _ rfl hrole) (.cons (serviceElement_controller rfl _ rfl)
      (.cons (serviceElement_session rfl _ rfl) (.cons (serviceElement_sequence rfl _ rfl) (.nil _))))))

theorem takeParam_eq {v : Byte} {d e : FrameContext} (h : { coverByte v d with params := d.params ++ [v] } = e) :
    takeParam v d = if e.place = lengthOf d then { e with parser := .reqCheck, place := 0 } else e := by
  subst h
  rfl

/-- One parameter (R107). -/
theorem takeParam_inParams (hlen : f.params.length ≤ 32) (v : Byte) (done : List Byte) (r : Word16) :
    takeParam v (inParams code f role c done r) =
      if done.length + 1 = f.params.length then
        { inParams code f role c (done ++ [v]) (crcByte r v) with parser := .reqCheck, place := 0 }
      else inParams code f role c (done ++ [v]) (crcByte r v) := by
  have hlength : lengthOf (inParams code f role c done r) = f.params.length := by
    have hnat : lengthOf (inParams code f role c done r) = (natByte f.params.length).toNat := rfl
    rw [hnat]
    simp only [natByte, BitVec.toNat_ofNat]
    omega
  have hplace : (inParams code f role c (done ++ [v]) (crcByte r v)).place = done.length + 1 := List.length_append
  have hnext : { coverByte v (inParams code f role c done r) with
      params := (inParams code f role c done r).params ++ [v] } = inParams code f role c (done ++ [v])
          (crcByte r v) := by
    unfold inParams
    rw [List.length_append]
    rfl
  rw [takeParam_eq hnext, hplace, hlength]

/-- The parameters, to the last one (R107). -/
theorem carries_params (hlen : f.params.length ≤ 32) (rest done : List Byte) (r : Word16) (hall : done ++ rest
    = f.params)
    (hne : rest ≠ []) : Carries (rest.map .plain) (a.withSp (inParams code f role c done r))
      (rest.map (OutChar.mk false)) (a.withSp (atReqCheck code f role c (crcFrom r rest))) := by
  induction rest generalizing done r with
  | nil => exact absurd rfl hne
  | cons v rest ih =>
    have hcount : done.length + (rest.length + 1) = f.params.length := by
      rw [← hall, List.length_append, List.length_cons]
    have hassoc : done ++ [v] ++ rest = f.params := by rw [← hall, List.append_assoc, List.singleton_append]
    have hstep : serviceElement (.plain v) [] (a.withSp (inParams code f role c done r))
        = ({ mark := false, data := v }, a.withSp (takeParam v (inParams code f role c done r))) := rfl
    rw [takeParam_inParams hlen] at hstep
    refine .cons hstep ?_
    by_cases hrest : rest = []
    · subst hrest
      rw [List.append_nil] at hassoc
      have hlast : done.length + 1 = f.params.length := hcount
      rw [if_pos hlast, hassoc]
      exact .nil _
    · have hpos : 0 < rest.length := List.length_pos_of_ne_nil hrest
      rw [if_neg (by omega)]
      exact ih (done ++ [v]) (crcByte r v) hassoc hrest

/-- The two request check characters, at the second of which the request is executed (R104, R110 to R113). -/
theorem carries_check : Carries ([hiByte (requestCheck code f), loByte (requestCheck code f)].map .plain)
    (a.withSp (atReqCheck code f role c (requestCheck code f)))
    ([hiByte (requestCheck code f), loByte (requestCheck code f)].map (OutChar.mk false))
    (atCheck true role (frameRequest code f role) (a.withSp (frameContext code f role))) := by
  obtain ⟨hi, hhi⟩ : ∃ hi, hiByte (requestCheck code f) = hi := ⟨_, rfl⟩
  obtain ⟨lo, hlo⟩ : ∃ lo, loByte (requestCheck code f) = lo := ⟨_, rfl⟩
  have hword : word16 hi lo = requestCheck code f := by rw [← hhi, ← hlo, word16_hiByte_loByte]
  obtain ⟨d, hfirst, hparser, hplace, hrunning, hhigh, hrole, hrequest, hcontext⟩ : ∃ d : FrameContext,
      serviceElement (.plain hi) [] (a.withSp (atReqCheck code f role c (requestCheck code f)))
          = ({ mark := false, data := hi }, a.withSp d)
      ∧ d.parser = .reqCheck ∧ d.place = 1 ∧ d.runningCheck = requestCheck code f ∧ d.checkHigh = some hi
      ∧ d.role = role ∧ contextRequest d = frameRequest code f role ∧ checkTaken lo d = frameContext code f role := by
    unfold frameContext
    rw [hhi, hlo]
    generalize requestCheck code f = check
    refine ⟨{ atReqCheck code f role c check with checkHigh := some hi, place := 1 }, rfl, rfl, rfl, rfl, rfl, rfl, rfl,
        rfl⟩
  have hgood : decide (requestCheck code f = word16 ((some hi).getD 0) lo) = true := decide_eq_true hword.symm
  have hsecond := serviceElement_secondCheck (a := a) hparser hplace lo
  rw [hrunning, hhigh, hgood, hrole, hrequest, hcontext] at hsecond
  rw [hhi, hlo]
  exact .cons hfirst (.cons hsecond (.nil _))

/-- Length and the parameters of a frame that has room for them (R107). -/
theorem carries_length (hlen : f.params.length ≤ 32) :
    Carries ((natByte f.params.length :: f.params).map .plain) (a.withSp (afterRoom code f role c))
      ((natByte f.params.length :: f.params).map (OutChar.mk false)) (a.withSp (atReqCheck code f role c
          (requestCheck code f))) := by
  have hnat : (natByte f.params.length).toNat = f.params.length := by
    simp only [natByte, BitVec.toNat_ofNat]
    omega
  have hstep := serviceElement_length (a := a) (d := afterRoom code f role c) rfl (natByte f.params.length) rfl
      (by omega)
  refine .cons hstep ?_
  by_cases hempty : f.params = []
  · have hzero : natByte f.params.length = 0 := by rw [hempty]; rfl
    have hdone : afterLength (natByte f.params.length) (afterRoom code f role c)
        = atReqCheck code f role c (crc16 (headerBytes code f)) := by
      rw [crc16_headerBytes]
      unfold atReqCheck inParams afterLength
      rw [if_pos hzero, hempty]
      rfl
    have hcheck : requestCheck code f = crc16 (headerBytes code f) := by
      rw [requestCheck_eq, hempty, crcFrom_nil]
    rw [hdone, hcheck, hempty]
    exact .nil _
  · have hpos : natByte f.params.length ≠ 0 := fun h0 => hempty (List.length_eq_zero_iff.mp (by rw [← hnat, h0]; rfl))
    have hbegin : afterLength (natByte f.params.length) (afterRoom code f role c)
        = inParams code f role c [] (crc16 (headerBytes code f)) := by
      rw [crc16_headerBytes]
      unfold inParams afterLength
      rw [if_neg hpos]
      rfl
    rw [hbegin, requestCheck_eq]
    exact carries_params hlen f.params [] _ rfl hempty

end Request

/-! ### A whole request section -/

/-- The frame as it stands on the line behind FS and Sequence. -/
def frameTail (code : Byte) (f : ReqFrame) : List Byte :=
  f.room :: natByte f.params.length :: f.params ++ [hiByte (requestCheck code f), loByte (requestCheck code f)]

theorem frameElements_eq (code : Byte) (f : ReqFrame) : frameElements code f = .fs ::
    ([f.destination, code, f.claim, f.controller, f.session, f.sequence].map .plain
      ++ (frameTail code f).map .plain) := by
  simp [frameElements, frameTail]

/-- Room to the last request check character of a well-formed frame (R107). -/
theorem carries_tail {code : Byte} {f : ReqFrame} {a : State} {c : FrameContext} {role : Role}
    (hroom : f.room.toNat ≤ 32) (hlen : f.params.length ≤ 32) :
    Carries ((frameTail code f).map .plain) (a.withSp (afterSequence code f role c))
      ((frameTail code f).map (OutChar.mk false))
      (atCheck true role (frameRequest code f role) (a.withSp (frameContext code f role))) := by
  unfold frameTail
  rw [List.map_append, List.map_append]
  exact .append (.cons (serviceElement_room rfl _ rfl hroom) (carries_length hlen)) carries_check

/-- Room to the last request check character of a malformed frame: it is abandoned, and the rest goes on (R106,
R107). -/
theorem carries_malformedTail {code : Byte} {f : ReqFrame} {a : State} {c : FrameContext} {role : Role}
    (hbyte : f.params.length ≤ 255) (hbad : 32 < f.room.toNat ∨ 32 < f.params.length) :
    Carries ((frameTail code f).map .plain) (a.withSp (afterSequence code f role c))
      ((frameTail code f).map (OutChar.mk false))
      ((count 7 a).withSp (endContext (malformedContext code f (beginContext c)))) := by
  have hidle : ((count 7 a).withSp (endContext (malformedContext code f (beginContext c)))).sp.parser = .idle := rfl
  unfold frameTail
  by_cases hroom : 32 < f.room.toNat
  · have hstep := serviceElement_roomTooLong (a := a) (d := afterSequence code f role c) rfl f.room rfl hroom
    rw [abortFrame_plain (.inl rfl)] at hstep
    have hcontext : endContext (malformedContext code f (beginContext c)) = endContext
        (afterSequence code f role c) := by
      unfold malformedContext
      rw [if_pos hroom, if_pos hroom]
      rfl
    rw [hcontext] at hidle ⊢
    exact .cons hstep (carries_idle hidle _)
  · have hlong : 32 < f.params.length := hbad.resolve_left hroom
    have hnat : (natByte f.params.length).toNat = f.params.length := by
      simp only [natByte, BitVec.toNat_ofNat]
      omega
    have hstep := serviceElement_lengthTooLong (a := a) (d := afterRoom code f role c) rfl (natByte f.params.length) rfl
      (by omega)
    rw [abortFrame_plain (.inl rfl)] at hstep
    have hcontext : endContext (malformedContext code f (beginContext c)) = endContext (afterRoom code f role c) := by
      unfold malformedContext
      rw [if_neg hroom, if_neg hroom]
      rfl
    rw [hcontext] at hidle ⊢
    exact .cons (serviceElement_room rfl _ rfl (by omega)) (.cons hstep (carries_idle hidle _))

/-- Settles O32: FS and the header, then the rest of a well-formed frame or of a malformed one. -/
theorem frameOnTheLineIsTheRequest : Obligations.FrameOnTheLineIsTheRequest := by
  intro code f s outs claim hr hl hlen hnil hcons hclaim
  obtain ⟨role, hrole⟩ : ∃ role, role = decideRole f.destination code f.claim s.me.address := ⟨_, rfl⟩
  have hbegun : (atFs s).withSp (beginContext s.sp) = atFs s := by rw [← atFs_sp]; rfl
  have hheader := carries_header (a := atFs s) (c := s.sp) (claim := claim)
    (hrole.trans (by rw [atFs_address])) (by rw [hclaim, ← hrole])
  rw [hbegun] at hheader
  have htail : Carries ((frameTail code f).map .plain) ((atFs s).withSp (afterSequence code f role s.sp))
      ((frameTail code f).map (OutChar.mk false)) (requestStep code f s) := by
    by_cases hbad : 32 < f.room.toNat ∨ 32 < f.params.length
    · rw [requestStep_malformed hr hl hbad, atFs_sp]
      exact carries_malformedTail hlen hbad
    · have hwell : f.wellFormed = true := decide_eq_true (by omega)
      rw [requestStep_role ⟨hr, hl, hwell, hrole.symm⟩]
      exact carries_tail (by omega) (by omega)
  have hframe := Carries.cons (serviceElement_fs s) (hheader.append htail)
  rw [← frameElements_eq] at hframe
  refine ⟨hframe.serviceElements, ?_⟩
  rw [hframe.outs hnil hcons]
  simp [frameTail, natByte]

end Sys2Proof.Machine
end

section
/-!
RESTART carried out at a frame's end or abort, and at a loss of lock (R76, R135, R136, R147, R163, R164, R167).
-/

namespace Sys2Proof.Machine

/-! ### Counters at the instant of RESTART -/

theorem freeLate_sublist {α : Type} (xs : List α) (k : Nat) : (freeLate xs k).Sublist xs := by
  induction xs generalizing k with
  | nil => exact List.Sublist.refl _
  | cons x xs ih =>
    unfold freeLate
    split
    · exact (ih (k + 1)).cons x
    · exact (ih (k + 1)).cons_cons x

theorem countAll_live_of_not_mem {is : List CounterIx} {i : CounterIx} (h : i ∉ is) (s : State) :
    (countAll is s).cb.live[i] = s.cb.live[i] := by
  induction is generalizing s with
  | nil => rfl
  | cons j is ih =>
    have hj : i ≠ j := fun he => h (he ▸ List.mem_cons_self)
    have his : i ∉ is := fun hm => h (List.mem_cons_of_mem j hm)
    have hstep : (countAll (j :: is) s).cb.live[i] = _ := ih his (count j s)
    rw [hstep, count_live, if_neg hj]

/-- The counters right after RESTART, with the increments that fall at its instant: each of them stands after the
zeroing or is zeroed (R163, R164, R167). -/
structure CountersRestarted (is : List CounterIx) (cb : CounterBlock) : Prop where
  capture : cb.capture = { number := 0, cycle := none, values := Vector.replicate 24 0 }
  deferred : cb.deferred = { armed := false, cycle := 0 }
  others : ∀ k : CounterIx, k ∉ is → cb.live[k] = 0
  racing : is.Nodup → ∀ k : CounterIx, cb.live[k] = 0 ∨ (cb.live[k] = 1 ∧ k ∈ is)
  nothing : is = [] → cb.live = Vector.replicate 24 0

theorem countRacing_restart (is : List CounterIx) (s : State) : ∃ cb k,
    countRacing is counterRestart s = (s.withCb cb).withFreeCount k ∧ CountersRestarted is cb := by
  obtain ⟨early, hearly⟩ := countAll_eq (freeEarly is s.freeCount) (s.withFreeCount (s.freeCount + is.length))
  obtain ⟨cb, hcb⟩ := countAll_eq (freeLate is s.freeCount)
    ((s.withFreeCount (s.freeCount + is.length)).withCb CounterBlock.reset)
  have hstate : countRacing is counterRestart s = (s.withCb cb).withFreeCount (s.freeCount + is.length) := by
    unfold countRacing
    dsimp only
    rw [hearly]
    exact hcb
  have hsub := freeLate_sublist is s.freeCount
  have hzero : ∀ k : CounterIx, CounterBlock.reset.live[k] = 0 := fun k => Vector.getElem_replicate _
  have hkept := countAll_capture (freeLate is s.freeCount)
    ((s.withFreeCount (s.freeCount + is.length)).withCb CounterBlock.reset)
  rw [hcb] at hkept
  refine ⟨cb, _, hstate, hkept.1, hkept.2, fun k hk => ?_, fun hnodup k => ?_, fun hnil => ?_⟩
  · have := countAll_live_of_not_mem (fun h => hk (hsub.subset h))
      ((s.withFreeCount (s.freeCount + is.length)).withCb CounterBlock.reset)
    rw [hcb] at this
    exact this.trans (hzero k)
  · have := countAll_live (hnodup.sublist hsub) k ((s.withFreeCount
      (s.freeCount + is.length)).withCb CounterBlock.reset)
    rw [hcb] at this
    by_cases hk : k ∈ freeLate is s.freeCount
    · rw [if_pos hk] at this
      refine .inr ⟨this.trans ?_, hsub.subset hk⟩
      rw [State.withCb_cb, hzero]
      rfl
    · rw [if_neg hk] at this
      exact .inl (this.trans (hzero k))
  · subst hnil
    exact (congrArg (fun t : State => t.cb.live) hcb).symm

/-- RESTART carried out, whole (R136). -/
theorem carryOutRestart_eq (is : List CounterIx) (s : State) : ∃ cb k, carryOutRestart is s
    = ((((((s.withMe { closed s.me with restartCause := .request, deferredRestart := false }).withMu
        (switchRestart s.mu)).withBu (s.bu.map stopBranch)).withPu (clearRun s.pu)).withCb cb).withFreeCount k).withEq
          (EventQueue.restarted .request (decide (s.mu.switch.state = .armed)) (cycleField s))
      ∧ CountersRestarted (is ++ racingCounts s) cb := by
  obtain ⟨cb, k, h, hcb⟩ := countRacing_restart (is ++ racingCounts s)
    (((((s.withFreeCount (s.freeCount + (racingPosts s).length)).withMe
      { closed s.me with restartCause := .request, deferredRestart := false }).withMu (switchRestart s.mu)).withBu
        (s.bu.map stopBranch)).withPu (clearRun s.pu))
  have hstep : ∀ t : State, countRacing (is ++ racingCounts s) counterRestart (((((s.withFreeCount (s.freeCount
      + (racingPosts s).length)).withMe { closed s.me with restartCause := .request, deferredRestart := false }).withMu
        (switchRestart s.mu)).withBu (s.bu.map stopBranch)).withPu (clearRun s.pu)) = t →
      carryOutRestart is s
        = t.withEq (EventQueue.restarted .request (decide (s.mu.switch.state = .armed)) (cycleField t)) := by
    rintro t rfl
    rfl
  exact ⟨cb, k, hstep _ h, hcb⟩

/-! ### Event posts behind RESTARTED -/

theorem advanceNewest_head? {e e' : EventRecord} (rest : List EventRecord) :
    (advanceNewest (e :: e' :: rest)).head? = some e := rfl

/-- A post does not touch the oldest record. -/
theorem postTo_head? {q : EventQueue} {e : EventRecord} (h : q.events.head? = some e) (c : Option Byte) (p : Post) :
    (postTo q c p).events.head? = some e := by
  obtain ⟨rest, hrest⟩ : ∃ rest, q.events = e :: rest := List.head?_eq_some_iff.mp h
  unfold postTo
  split
  · rw [hrest]
    rfl
  · split
    · rw [hrest]
      rfl
    · rename_i h14 h15
      obtain ⟨e', rest', rfl⟩ : ∃ e' rest', rest = e' :: rest' := by
        cases rest with
        | nil => exact absurd (by rw [hrest]; simp) h14
        | cons e' rest' => exact ⟨e', rest', rfl⟩
      rw [hrest]
      exact advanceNewest_head? rest'

theorem foldl_postTo_head? {q : EventQueue} {e : EventRecord} (h : q.events.head? = some e) (c : Option Byte)
    (ps : List Post) : (ps.foldl (fun q p => postTo q c p) q).events.head? = some e := by
  induction ps generalizing q with
  | nil => exact h
  | cons p ps ih => exact ih (postTo_head? h c p)

/-- The one record that RESTART leaves (R147). -/
def restartedRecord (abandoned : Prop) [Decidable abandoned] (cycle : Option Byte) : EventRecord :=
  { sequence := 0, kind := .restarted, cycle := cycle, detail := [2, if abandoned then 1 else 0] }

theorem restarted_eq (abandoned : Prop) [Decidable abandoned] (cycle : Option Byte) :
    EventQueue.restarted .request (decide abandoned) cycle
      = { events := [restartedRecord abandoned cycle], nextSequence := 1 } := by
  unfold EventQueue.restarted restartedRecord
  simp only [decide_eq_true_eq]
  rfl

/-! ### A frame notice that carries RESTART out -/

/-- Every block right after RESTART is carried out at a frame's end or abort (R136, R147). -/
structure RestartLeaves (is : List CounterIx) (s t : State) : Prop where
  ct : t.ct = s.ct
  trunk : t.trunk = s.trunk
  sp : t.sp = s.sp
  me : t.me = { closed s.me with restartCause := .request, deferredRestart := false }
  mu : t.mu = switchRestart s.mu
  bu : t.bu = s.bu.map stopBranch
  pu : t.pu = clearRun s.pu
  cb : CountersRestarted (is ++ racingCounts s) t.cb
  inReset : t.inReset = s.inReset
  pending : t.pending = s.pending
  eq : ∃ ps : List Post, ps.Perm (latePosts s) ∧ t.eq = ps.foldl (fun q p => postTo q (cycleField s) p)
    { events := [restartedRecord (s.mu.switch.state = .armed) (cycleField s)], nextSequence := 1 }

theorem frameNotice_restart {s : State} (hdue : s.me.deferredRestart = true) (is : List CounterIx) :
    RestartLeaves is s (frameNotice true is s) := by
  have hnotice : frameNotice true is s = postTogether (apart (latePosts s)) (carryOutRestart is s) :=
    if_pos (by rw [hdue]; rfl)
  obtain ⟨u, hu⟩ : ∃ u, carryOutRestart is s = u := ⟨_, rfl⟩
  have hcb : CountersRestarted (is ++ racingCounts s) u.cb := by
    obtain ⟨cb, k, hcarry, hcb⟩ := carryOutRestart_eq is s
    rw [← hu, hcarry]
    exact hcb
  obtain ⟨hct, htrunk, hreset, hsp, hpending, hme, hmu, hbu, hpu, heq⟩ := carryOutRestart_frame is s
  rw [hu] at hct htrunk hreset hsp hpending hme hmu hbu hpu heq
  have hcycle : cycleField u = cycleField s := by unfold cycleField; rw [hct]
  obtain ⟨hme', hsp', hct', hreset', hmu', hbu', hcb', hpu', htrunk', hpending'⟩ :=
    postTogether_frame (apart (latePosts s)) u
  obtain ⟨ps, j, hps, hposts⟩ := postTogether_order (apart (latePosts s)) u
  rw [apart_flatten] at hps
  rw [hcycle, heq, restarted_eq] at hposts
  rw [hnotice, hu]
  exact ⟨hct'.trans hct, htrunk'.trans htrunk, hsp'.trans hsp, hme'.trans hme, hmu'.trans hmu, hbu'.trans hbu,
    hpu'.trans hpu, hcb' ▸ hcb, hreset'.trans hreset, hpending'.trans hpending, ps, hps, by rw [hposts]; rfl⟩

/-! ### A branch character that completes at the instant -/

/-- One character completes right behind the command under way, and its receiver takes it (R89, log entry 22). -/
structure OneBehind (b : BranchNo) (bits : BranchBits) (s : State) : Prop where
  pending : ∃ rest, s.pending = .branchCharacterComplete b bits :: rest
    ∧ ∀ b' bits' rest', rest ≠ .branchCharacterComplete b' bits' :: rest'
  line : lineIs b .receiving s

theorem OneBehind.completions {b : BranchNo} {bits : BranchBits} {s : State} (h : OneBehind b bits s) :
    racingCompletions s = [(b, bits)] := by
  obtain ⟨rest, hpending, hrest⟩ := h.pending
  have hbehind : completionsBehind [b] rest = [] := by
    cases rest with
    | nil => rfl
    | cons i rest' =>
      cases i with
      | branchCharacterComplete b' bits' => exact absurd rfl (hrest b' bits' rest')
      | _ => rfl
  have hline : decide (lineIs b .receiving s) = true := decide_eq_true h.line
  have hall : completionsBehind [] s.pending = [(b, bits)] := by
    rw [hpending, completionsBehind, hbehind]
    rfl
  unfold racingCompletions
  rw [hall, List.filter_cons, if_pos hline]
  rfl

section OneBehind
variable {b : BranchNo} {bits : BranchBits} {s : State} {x : Branch} {v : Option Byte} (h : OneBehind b bits s)
  (hx : x = s.bu[b]) (hv : v = branchValue x.config bits)
include h hx hv

theorem OneBehind.counts : racingCounts s = (x.judge v).counts b := by
  subst hx hv
  unfold racingCounts
  rw [h.completions, List.flatMap_singleton]
  rfl

theorem OneBehind.posts : racingPosts s = (x.judge v).posts b x := by
  subst hx hv
  unfold racingPosts
  rw [h.completions, List.flatMap_singleton]
  rfl

end OneBehind

/-- The count a complete character makes, if it makes one (R90 to R92, R101). -/
theorem judge_counts (b : BranchNo) (x : Branch) (v : Option Byte) : (x.judge v).counts b = []
    ∨ (v = none ∧ (x.judge v).counts b = [cntReceiveErrors b])
    ∨ (v ≠ none ∧ (x.receiver = .hold ∨ 32 ≤ x.insertQueue.length) ∧ (x.judge v).counts b = [cntInsertDiscards b]) := by
  obtain ⟨config, enabled, drops, inserts, sending, receiver, line, side, dropRep, insertRep⟩ := x
  cases receiver with
  | run =>
    cases v with
    | none =>
      refine .inr (.inl ⟨rfl, ?_⟩)
      unfold Branch.judge
      cases config.policy <;> rfl
    | some byte =>
      by_cases hfull : 32 ≤ inserts.length
      · refine .inr (.inr ⟨nofun, .inr hfull, ?_⟩)
        have hq : queueFull inserts = true := decide_eq_true hfull
        unfold Branch.judge
        simp only [hq, if_true]
        rfl
      · refine .inl ?_
        have hq : queueFull inserts = false := decide_eq_false hfull
        unfold Branch.judge
        simp only [hq]
        rfl
  | hold =>
    cases v with
    | none => exact .inr (.inl ⟨rfl, rfl⟩)
    | some byte => exact .inr (.inr ⟨nofun, .inl rfl, rfl⟩)

/-- The post a complete character makes, if it makes one (R91, R93). -/
theorem judge_posts (b : BranchNo) (x : Branch) (v : Option Byte) : (x.judge v).posts b x = []
    ∨ (v = none ∧ x.receiver = .run ∧ x.config.policy = .hold
      ∧ (x.judge v).posts b x = [{ kind := .branchHold, detail := [natByte b.val] }])
    ∨ (v ≠ none ∧ (x.receiver = .hold ∨ 32 ≤ x.insertQueue.length) ∧ x.insertReported = false
      ∧ (x.judge v).posts b x = [{ kind := .insertOverrun, detail := [natByte b.val] }]) := by
  obtain ⟨config, enabled, drops, inserts, sending, receiver, line, side, dropRep, insertRep⟩ := x
  cases receiver with
  | run =>
    cases v with
    | none =>
      unfold Branch.judge
      cases hpol : config.policy with
      | discard => exact .inl rfl
      | hold => exact .inr (.inl ⟨rfl, rfl, rfl, rfl⟩)
    | some byte =>
      by_cases hfull : 32 ≤ inserts.length
      · have hq : queueFull inserts = true := decide_eq_true hfull
        unfold Branch.judge
        simp only [hq, if_true]
        cases insertRep with
        | true => exact .inl rfl
        | false => exact .inr (.inr ⟨nofun, .inr hfull, rfl, rfl⟩)
      · have hq : queueFull inserts = false := decide_eq_false hfull
        unfold Branch.judge
        simp only [hq]
        exact .inl rfl
  | hold =>
    cases v with
    | none => exact .inl rfl
    | some byte =>
      cases insertRep with
      | true => exact .inl rfl
      | false => exact .inr (.inr ⟨nofun, .inl rfl, rfl, rfl⟩)

end Sys2Proof.Machine
end

section
/-!
RESTART_CARRIED_OUT: the SERVICE slot that ends the frame of an executed RESTART, and the loss of lock that aborts it
(R20, R76, R118, R135, R136, R147, R163).
-/

namespace Sys2Proof.Machine

/-! ### The element that ends a frame -/

/-- An element that ends or aborts the frame in progress: what is sent, the increments of its instant and the context it
leaves (R115, R116, R118). -/
structure EndsFrame (ch : TrunkBits) (s : State) (o : OutChar) (is : List CounterIx) (c : FrameContext) : Prop where
  step : serviceElement (classify ch) (damageCounts ch) s = (o, frameNotice s.sp.executed is (s.withSp c))
  small : ∀ k ∈ is, k.val < 8
  nodup : is.Nodup
  executed : c.executed = false
  reply : c.pendingReply = none
  begun : classify ch = .fs → c.parser = .header
  completed : s.sp.parser = .finish → classify ch = .fe →
    o = { mark := true, data := 0x5E } ∧ is = [] ∧ c.parser = .idle

theorem endsFrame {ch : TrunkBits} {s : State}
    (h : s.sp.parser = .finish ∨ (s.sp.parser ≠ .idle ∧ ∀ v, classify ch ≠ .plain v)) :
    ∃ o is c, EndsFrame ch s o is c := by
  have hframe : s.sp.parser ≠ .idle := h.elim (fun hf => by rw [hf]; nofun) fun hn => hn.1
  have hfs : ∀ k ∈ ([7, 4] : List CounterIx), k.val < 8 := by decide
  have habort : ∀ k ∈ ([7] : List CounterIx), k.val < 8 := by decide
  by_cases hother : IsOther (classify ch)
  · have his : (∀ k ∈ damageCounts ch ++ [7], k.val < 8) ∧ (damageCounts ch ++ [7]).Nodup := by
      unfold damageCounts
      split <;> decide
    refine ⟨sidleOut, damageCounts ch ++ [7], endContext s.sp, ?_, his.1, his.2, rfl, rfl,
      fun hf => absurd hf hother.1, fun _ hf => absurd hf hother.2.1⟩
    exact (serviceElement_frame hframe _ _).trans (frameElement_other hother _ s)
  · cases hch : classify ch with
    | fs =>
      refine ⟨{ mark := true, data := 0x51 }, [7, 4], beginContext s.sp, ?_, hfs, by decide, rfl, rfl, fun _ => rfl,
          fun _ hf => by rw [hch] at hf; cases hf⟩
      rw [damageCounts_undamaged (by rw [hch]; nofun), hch]
      exact serviceElement_frame hframe _ _
    | fe =>
      by_cases hfinish : s.sp.parser = .finish
      · refine ⟨{ mark := true, data := 0x5E }, [], endContext s.sp, ?_, nofun, List.nodup_nil, rfl, rfl,
          fun hf => by (rw [hch] at hf; cases hf), fun _ _ => ⟨rfl, rfl, rfl⟩⟩
        rw [damageCounts_undamaged (by rw [hch]; nofun), hch, serviceElement_frame hframe, frameElement, if_pos hfinish]
        rfl
      · refine ⟨{ mark := true, data := 0x5E }, [7], endContext s.sp, ?_, habort, by decide, rfl, rfl,
          fun hf => by (rw [hch] at hf; cases hf), fun hf => absurd hf hfinish⟩
        rw [damageCounts_undamaged (by rw [hch]; nofun), hch, serviceElement_frame hframe, frameElement, if_neg hfinish]
        rfl
    | plain v =>
      have hfinish : s.sp.parser = .finish := h.resolve_right fun hn => hn.2 v hch
      refine ⟨plainOut v, [7], endContext s.sp, ?_, habort, by decide, rfl, rfl,
        fun hf => by (rw [hch] at hf; cases hf), fun _ hf => by rw [hch] at hf; cases hf⟩
      rw [damageCounts_undamaged (by rw [hch]; nofun), hch, serviceElement_frame hframe, frameElement, takePlain]
      simp only [countAll, List.foldl_nil, hfinish]
      rfl
    | sidle | sync | syncA | stray v | damaged =>
      exact absurd ⟨by rw [hch]; nofun, by rw [hch]; nofun, by rw [hch]; nofun⟩ hother

/-! ### The SERVICE slot at which RESTART is carried out -/

/-- The branch characters of an instant, read off their units before RESTART: the counts are those of branches. -/
theorem judge_counts_large {b : BranchNo} {x : Branch} {v : Option Byte} {k : CounterIx}
    (h : k ∈ (x.judge v).counts b) : 8 ≤ k.val ∧ ((v = none ∧ k.val = 11 + 4 * b.val)
      ∨ (v ≠ none ∧ (x.receiver = .hold ∨ 32 ≤ x.insertQueue.length) ∧ k.val = 9 + 4 * b.val)) := by
  rcases judge_counts b x v with hnil | ⟨hv, hone⟩ | ⟨hv, hfull, hone⟩
  · rw [hnil] at h
    cases h
  · rw [hone, List.mem_singleton] at h
    subst h
    have hval : (cntReceiveErrors b).val = 11 + 4 * b.val := rfl
    exact ⟨by omega, .inl ⟨hv, hval⟩⟩
  · rw [hone, List.mem_singleton] at h
    subst h
    have hval : (cntInsertDiscards b).val = 9 + 4 * b.val := rfl
    exact ⟨by omega, .inr ⟨hv, hfull, hval⟩⟩

theorem judge_counts_nodup (b : BranchNo) (x : Branch) (v : Option Byte) : ((x.judge v).counts b).Nodup := by
  rcases judge_counts b x v with hnil | ⟨-, hone⟩ | ⟨-, -, hone⟩
  · rw [hnil]
    exact List.nodup_nil
  · rw [hone]
    exact List.nodup_singleton _
  · rw [hone]
    exact List.nodup_singleton _

/-- The counters where one branch character completes at the instant of RESTART (R163). -/
theorem CountersRestarted.oneBehind {is : List CounterIx} {cb : CounterBlock} {b : BranchNo} {bits : BranchBits}
    {s : State} {x : Branch} {v : Option Byte} (h : CountersRestarted (is ++ racingCounts s) cb)
    (hone : OneBehind b bits s) (hx : x = s.bu[b]) (hv : v = branchValue x.config bits) (hsmall : ∀ k ∈ is, k.val < 8)
    (hnodup : is.Nodup) (k : CounterIx) (hk : 8 ≤ k.val) : cb.live[k] = 0 ∨ (cb.live[k] = 1
      ∧ ((v = none ∧ k.val = 11 + 4 * b.val)
        ∨ (v ≠ none ∧ (x.receiver = .hold ∨ 32 ≤ x.insertQueue.length) ∧ k.val = 9 + 4 * b.val))) := by
  rw [hone.counts hx hv] at h
  have hall : (is ++ (x.judge v).counts b).Nodup := List.nodup_append.mpr ⟨hnodup, judge_counts_nodup b x v,
    fun i hi j hj hij => absurd (judge_counts_large hj).1 (by have := hsmall i hi; rw [← hij]; omega)⟩
  refine (h.racing hall k).imp_right fun ⟨hlive, hmem⟩ => ⟨hlive, ?_⟩
  rcases List.mem_append.mp hmem with hi | hc
  · exact absurd (hsmall k hi) (by omega)
  · exact (judge_counts_large hc).2

/-- The posts behind RESTARTED where one branch character completes at the instant (R147). -/
theorem OneBehind.posted {b : BranchNo} {bits : BranchBits} {s : State} {x : Branch} {v : Option Byte}
    (hone : OneBehind b bits s) (hx : x = s.bu[b]) (hv : v = branchValue x.config bits) {ps : List Post}
    (hps : ps.Perm (latePosts s)) : ps = []
      ∨ (v = none ∧ x.receiver = .run ∧ x.config.policy = .hold
          ∧ ps = [{ kind := .branchHold, detail := [natByte b.val] }])
      ∨ (v ≠ none ∧ (x.receiver = .hold ∨ 32 ≤ x.insertQueue.length) ∧ x.insertReported = false
          ∧ ps = [{ kind := .insertOverrun, detail := [natByte b.val] }]) := by
  have hsub : (latePosts s).Sublist ((x.judge v).posts b x) := hone.posts hx hv ▸ freeLate_sublist _ _
  rcases judge_posts b x v with hnil | ⟨hnone, hrun, hpol, hpost⟩ | ⟨hsome, hfull, hrep, hpost⟩
  · rw [hnil, List.sublist_nil] at hsub
    rw [hsub] at hps
    exact .inl hps.eq_nil
  · rw [hpost, List.sublist_singleton] at hsub
    rcases hsub with hsub | hsub
    · rw [hsub] at hps
      exact .inl hps.eq_nil
    · rw [hsub] at hps
      exact .inr (.inl ⟨hnone, hrun, hpol, List.perm_singleton.mp hps⟩)
  · rw [hpost, List.sublist_singleton] at hsub
    rcases hsub with hsub | hsub
    · rw [hsub] at hps
      exact .inl hps.eq_nil
    · rw [hsub] at hps
      exact .inr (.inr ⟨hsome, hfull, hrep, List.perm_singleton.mp hps⟩)

/-! ### The switch at RESTART -/

theorem switchRestart_idle {m : MapUnit} (h : m.switch.state = .idle) : switchRestart m = m := by
  unfold switchRestart
  rw [h]

theorem switchRestart_armed {m : MapUnit} (h : m.switch.state = .armed) : switchRestart m
    = abandonSwitch m .restart := by
  unfold switchRestart
  rw [h]

theorem switchRestart_guarding {m : MapUnit} (h : m.switch.state = .guarding) : switchRestart m
    = completeGuard m .none := by
  unfold switchRestart
  rw [h]

theorem switchRestart_pendingMap (m : MapUnit) : (switchRestart m).pendingMap = m.pendingMap := by
  cases h : m.switch.state with
  | idle => rw [switchRestart_idle h]
  | armed => rw [switchRestart_armed h]; rfl
  | guarding => rw [switchRestart_guarding h, completeGuard_pendingMap]

theorem switchRestart_length (m : MapUnit) : (switchRestart m).live.length = m.live.length := by
  cases h : m.switch.state with
  | idle => rw [switchRestart_idle h]
  | armed => rw [switchRestart_armed h]; rfl
  | guarding => rw [switchRestart_guarding h, completeGuard_length]

theorem stopBranch_get (bu : Vector Branch 4) (b : BranchNo) : (bu.map stopBranch)[b] = stopBranch bu[b] :=
  Vector.getElem_map _ _

end Sys2Proof.Machine
end

section
/-!
RESTART carried out at a loss of lock that aborts its frame, in each of the orders that are left free (R20, R76, R147,
R163, R167).
-/

namespace Sys2Proof.Machine

/-! ### The switch and the checker once each notice has been taken -/

theorem switchLockLost_idle {m : MapUnit} (h : m.switch.state = .idle) : switchLockLost m = (m, []) := by
  unfold switchLockLost
  rw [h]

theorem switchLockLost_armed {m : MapUnit} (h : m.switch.state = .armed) :
    (switchLockLost m).1 = abandonSwitch m .lockLost := by
  unfold switchLockLost
  rw [h]

theorem switchLockLost_guarding {m : MapUnit} (h : m.switch.state = .guarding) :
    (switchLockLost m).1 = completeGuard m .lockLost := by
  unfold switchLockLost
  rw [h]

theorem switchLockLost_state (m : MapUnit) : (switchLockLost m).1.switch.state = .idle := by
  cases h : m.switch.state with
  | idle => rw [switchLockLost_idle h, h]
  | armed => rw [switchLockLost_armed h]; rfl
  | guarding => rw [switchLockLost_guarding h]; rfl

theorem switchRestart_state (m : MapUnit) : (switchRestart m).switch.state = .idle := by
  cases h : m.switch.state with
  | idle => rw [switchRestart_idle h, h]
  | armed => rw [switchRestart_armed h]; rfl
  | guarding => rw [switchRestart_guarding h]; rfl

/-- A checker that has taken the lock-lost notice is not changed by another (R156). -/
theorem patternLockLost_restarted (p : PatternUnit) :
    patternLockLost (clearRun (patternLockLost p)) = patternLockLost (clearRun p) := by
  obtain ⟨config, generator, checker, register, progress, window, run, mode, len, checked, errors, resyncs, stopped⟩ :=
      p
  cases checker <;> rfl

/-- The lock-lost notice where MU and CB have nothing left to end: the checker's part, and the posts (R20, R156). -/
theorem lockLostNotices_settled {u : State} (hswitch : u.mu.switch.state = .idle) (harmed : u.cb.deferred.armed = false)
    (posts others : List Post) : ∃ q k, lockLostNotices posts others u
        = ((u.withPu (patternLockLost u.pu)).withFreeCount k).withEq q
      ∧ PostedAtOnce (cycleField u) posts others u.eq q := by
  obtain ⟨q, k, h, hposted⟩ := lockLostNotices_eq posts others u
  have hcapture : { u.cb.deferred with armed := false } = u.cb.deferred := by rw [← harmed]
  have hnone : captureLostPosts u.cb.deferred = [] := by
    unfold captureLostPosts
    rw [harmed]
    rfl
  rw [switchLockLost_idle hswitch, hcapture] at h
  rw [switchLockLost_idle hswitch, hnone, List.append_nil, List.nil_append] at hposted
  exact ⟨q, k, h, hposted⟩

/-! ### Before and after RESTART -/

/-- A state in which RESTART may find the blocks at a loss of lock: the aborted frame over, and the lock-lost notice
taken by MU and PU, or not yet. -/
structure BeforeRestart (s z : State) : Prop where
  me : z.me = s.me
  bu : z.bu = s.bu
  sp : z.sp = endContext s.sp
  inReset : z.inReset = s.inReset
  pending : z.pending = s.pending
  mu : z.mu = s.mu ∨ z.mu = (switchLockLost s.mu).1
  pu : z.pu = s.pu ∨ z.pu = patternLockLost s.pu

/-- Every block but the Event Queue once both have been taken (R20, R76, R136, R163, R167). -/
structure LossRestarts (is : List CounterIx) (s z t : State) : Prop where
  ct : t.ct = lockLostTracker s.ct
  me : t.me = { closed s.me with restartCause := .request, deferredRestart := false }
  sp : t.sp = endContext s.sp
  bu : t.bu = s.bu.map stopBranch
  pu : t.pu = patternLockLost (clearRun s.pu)
  mu : t.mu = switchRestart z.mu
  cb : CountersRestarted (is ++ racingCounts z) t.cb
  inReset : t.inReset = s.inReset
  pending : t.pending = s.pending

theorem lossRestarts {is : List CounterIx} {s z t : State} {k : Nat} {q : EventQueue} (hz : BeforeRestart s z)
    (ht : t = ((((carryOutRestart is z).withCt (lockLostTracker s.ct)).withPu
      (patternLockLost (carryOutRestart is z).pu)).withFreeCount k).withEq q) : LossRestarts is s z t := by
  obtain ⟨-, -, hreset, hsp, hpending, hme, hmu, hbu, hpu, -⟩ := carryOutRestart_frame is z
  obtain ⟨cb, j, hcarry, hcb⟩ := carryOutRestart_eq is z
  have hcounters : CountersRestarted (is ++ racingCounts z) (carryOutRestart is z).cb := by
    rw [hcarry]
    exact hcb
  have hpattern : patternLockLost (clearRun z.pu) = patternLockLost (clearRun s.pu) := by
    rcases hz.pu with h | h
    · rw [h]
    · rw [h, patternLockLost_restarted]
  generalize carryOutRestart is z = v at *
  subst ht
  rw [hz.me] at hme
  exact ⟨rfl, hme, hsp.trans hz.sp, hbu.trans (by rw [hz.bu]), (congrArg patternLockLost hpu).trans hpattern, hmu,
    hcounters, hreset.trans hz.inReset, hpending.trans hz.pending⟩

/-- LOCK_LOST as it stands behind RESTARTED (R20). -/
def lostRecord (c : CycleTracker) : EventRecord :=
  { sequence := 1, kind := .lockLost, cycle := none, detail := [c.cycle.getD 0] }

/-- The Event Queue where no branch character completes at the instant: LOCK_LOST behind RESTARTED, or emptied away
(R147). -/
def LossPosted (s z : State) (cycle : Option Byte) (q : EventQueue) : Prop :=
  (cycle = s.ct.cycle ∨ cycle = none)
    ∧ (q = { events := [restartedRecord (z.mu.switch.state = .armed) cycle, lostRecord s.ct], nextSequence := 2 }
      ∨ (cycle = none ∧ q = { events := [restartedRecord (z.mu.switch.state = .armed) cycle], nextSequence := 1 }))

/-- RESTART right after a state at a loss of lock leaves MU and CB nothing to end at the lock-lost notice. -/
theorem carryOutRestart_settled (is : List CounterIx) (z : State) :
    (carryOutRestart is z).mu.switch.state = .idle ∧ (carryOutRestart is z).cb.deferred.armed = false := by
  obtain ⟨-, -, -, -, -, -, hmu, -, -, -⟩ := carryOutRestart_frame is z
  obtain ⟨cb, j, hcarry, hcb⟩ := carryOutRestart_eq is z
  refine ⟨by rw [hmu, switchRestart_state], ?_⟩
  have hdeferred : (carryOutRestart is z).cb.deferred = cb.deferred := by rw [hcarry]; rfl
  rw [hdeferred, hcb.deferred]

theorem carryOutRestart_queue (is : List CounterIx) (z : State) : (carryOutRestart is z).eq
    = { events := [restartedRecord (z.mu.switch.state = .armed) (cycleField z)], nextSequence := 1 } :=
  ((carryOutRestart_frame is z).2.2.2.2.2.2.2.2.2).trans (restarted_eq _ _)

/-- RESTART before CT's loss of lock. -/
theorem restart_thenLoss {is : List CounterIx} {s z : State} (hz : BeforeRestart s z) (hct : z.ct = s.ct)
    (hl : s.ct.lock = .locked) (early late : List Post) (j : Nat) :
    ∃ t, lockLostNotices [lockLostPost s.ct] late (onCt lockLostTracker
        (postTogether (apart early) ((carryOutRestart is z).withFreeCount j))) = t
      ∧ LossRestarts is s z t ∧ (early = [] → late = [] → ∃ cycle, LossPosted s z cycle t.eq) := by
  obtain ⟨hswitch, harmed⟩ := carryOutRestart_settled is z
  have hqueue := carryOutRestart_queue is z
  have hvct : (carryOutRestart is z).ct = s.ct := (carryOutRestart_frame is z).1.trans hct
  have hleaves := @lossRestarts is s z
  have hcycle : cycleField z = s.ct.cycle := by unfold cycleField; rw [hct, hl]; rfl
  generalize carryOutRestart is z = v at *
  obtain ⟨qs, m, hqs, hw⟩ := postTogether_order (apart early) (v.withFreeCount j)
  rw [hw]
  obtain ⟨q, k, h, hposted⟩ := lockLostNotices_settled (u := onCt lockLostTracker
      (((v.withFreeCount j).withFreeCount m).withEq
    (qs.foldl (fun q p => postTo q (cycleField (v.withFreeCount j)) p) (v.withFreeCount j).eq))) hswitch harmed
    [lockLostPost s.ct] late
  refine ⟨_, h, hleaves (k := k) (q := q) hz ?_, fun hearly hlate => ⟨s.ct.cycle, .inl rfl, .inl ?_⟩⟩
  · unfold onCt
    rw [← hvct]
    rfl
  · subst hearly hlate
    rw [apart_flatten, List.perm_nil] at hqs
    subst hqs
    have hq := hposted.one (p := lockLostPost s.ct) rfl
    rw [State.withEq_eq, hq]
    have hv : (onCt lockLostTracker (((v.withFreeCount j).withFreeCount m).withEq
      (([] : List Post).foldl (fun q p => postTo q (cycleField (v.withFreeCount j)) p) (v.withFreeCount j).eq))).eq
          = v.eq := rfl
    rw [hv, hqueue, hcycle]
    rfl

/-- CT's loss of lock before RESTART. -/
theorem loss_thenRestart {is : List CounterIx} {s z : State} (hz : BeforeRestart s z) (hct : z.ct
    = lockLostTracker s.ct)
    (posts late : List Post) :
    ∃ t, lockLostNotices posts late (carryOutRestart is z) = t
      ∧ LossRestarts is s z t
      ∧ (late = [] → posts = [] ∨ posts = [lockLostPost s.ct] → LossPosted s z none t.eq) := by
  obtain ⟨hswitch, harmed⟩ := carryOutRestart_settled is z
  have hqueue := carryOutRestart_queue is z
  have hvct : (carryOutRestart is z).ct = lockLostTracker s.ct := (carryOutRestart_frame is z).1.trans hct
  have hleaves := @lossRestarts is s z
  have hcycle : cycleField z = none := by unfold cycleField; rw [hct]; rfl
  generalize carryOutRestart is z = v at *
  obtain ⟨q, k, h, hposted⟩ := lockLostNotices_settled hswitch harmed posts late
  have hv : cycleField v = none := by unfold cycleField; rw [hvct]; rfl
  rw [hv, hqueue, hcycle] at hposted
  refine ⟨_, h, hleaves (k := k) (q := q) hz ?_, fun hlate hposts => ⟨.inr rfl, ?_⟩⟩
  · rw [← hvct]
    rfl
  · subst hlate
    rw [State.withEq_eq]
    rcases hposts with rfl | rfl
    · exact .inr ⟨rfl, hposted.none rfl⟩
    · exact .inl (hposted.one rfl)

/-- MU's and PU's part of a lock-lost notice that comes before RESTART. -/
theorem lockLostNotices_before {s y : State} (hy : BeforeRestart s y) (hmu : y.mu = s.mu) (hpu : y.pu = s.pu)
    (hct : y.ct = lockLostTracker s.ct) (posts : List Post) : BeforeRestart s (lockLostNotices posts [] y)
      ∧ (lockLostNotices posts [] y).ct = lockLostTracker s.ct := by
  obtain ⟨q, k, h, -⟩ := lockLostNotices_eq posts [] y
  rw [h]
  exact ⟨⟨hy.me, hy.bu, hy.sp, hy.inReset, hy.pending, .inr (congrArg (fun m => (switchLockLost m).1) hmu),
    .inr (congrArg patternLockLost hpu)⟩, hct⟩

theorem postList_before {s y : State} (hy : BeforeRestart s y) (hct : y.ct = lockLostTracker s.ct) (posts : List Post) :
    BeforeRestart s (postList posts y) ∧ (postList posts y).ct = lockLostTracker s.ct := by
  rw [postList_eq]
  exact ⟨⟨hy.me, hy.bu, hy.sp, hy.inReset, hy.pending, hy.mu, hy.pu⟩, hct⟩

/-- A loss of lock that carries RESTART out, in whichever order (R136). -/
theorem loseLockWithRestart_leaves {s : State} (hl : s.ct.lock = .locked) (is : List CounterIx) :
    ∃ z t, loseLockWithRestart is s = t ∧ BeforeRestart s z ∧ LossRestarts is s z t
      ∧ (NoneBehind s → ∃ cycle, LossPosted s z cycle t.eq) := by
  obtain ⟨x, hx⟩ : ∃ x, onSp endContext (s.withFreeCount (s.freeCount + 3)) = x := ⟨_, rfl⟩
  have hbefore : BeforeRestart s x := by
    subst hx
    exact ⟨rfl, rfl, rfl, rfl, rfl, .inl rfl, .inl rfl⟩
  have hxmu : x.mu = s.mu := by rw [← hx]; rfl
  have hxpu : x.pu = s.pu := by rw [← hx]; rfl
  have hxct : x.ct = s.ct := by rw [← hx]; rfl
  have hlate : NoneBehind s → latePosts x = [] := fun hnone => by
    rw [← hx]
    exact (racing_of_none (s := onSp endContext (s.withFreeCount (s.freeCount + 3))) hnone).2.2
  unfold loseLockWithRestart
  dsimp only
  rw [hx]
  split
  · obtain ⟨t, ht, hleaves, hposted⟩ := restart_thenLoss (is := is) hbefore hxct hl
      (freeEarly (latePosts x) (carryOutRestart is x).freeCount)
      (freeLate (latePosts x) (carryOutRestart is x).freeCount)
      ((carryOutRestart is x).freeCount + (latePosts x).length)
    refine ⟨x, t, ht, hbefore, hleaves, fun hnone => hposted ?_ ?_⟩
    · rw [hlate hnone]
      rfl
    · rw [hlate hnone]
      rfl
  · generalize (Config.freeBit (s.freeCount + 2) || (Config.freeBit (s.freeCount + 1)
      && decide (x.mu.switch.state ≠ .idle))) = early
    have hy : BeforeRestart s (onCt lockLostTracker x) := ⟨hbefore.me, hbefore.bu, hbefore.sp, hbefore.inReset,
      hbefore.pending, hbefore.mu, hbefore.pu⟩
    have hyct : (onCt lockLostTracker x).ct = lockLostTracker s.ct := congrArg lockLostTracker hxct
    obtain ⟨z, hzdef, hz, hzct⟩ : ∃ z, (if Config.freeBit (s.freeCount + 1) = true then
        lockLostNotices (if early = true then [lockLostPost s.ct] else []) [] (onCt lockLostTracker x)
        else postList (if early = true then [lockLostPost s.ct] else []) (onCt lockLostTracker x)) = z
        ∧ BeforeRestart s z ∧ z.ct = lockLostTracker s.ct := by
      refine ⟨_, rfl, ?_⟩
      split
      · exact lockLostNotices_before hy hxmu hxpu hyct _
      · exact postList_before hy hyct _
    rw [hzdef]
    obtain ⟨t, ht, hleaves, hposted⟩ := loss_thenRestart (is := is) hz hzct
      (if early = true then [] else [lockLostPost s.ct]) (latePosts x)
    refine ⟨z, t, ht, hz, hleaves, fun hnone => ⟨none, hposted (hlate hnone) ?_⟩⟩
    cases early
    · exact .inr rfl
    · exact .inl rfl

/-! ### Which notice ended the switch -/

/-- The switch where RESTART and the lock-lost notice both find it: the first of them ends it (R74, R76). -/
theorem BeforeRestart.switch {is : List CounterIx} {s z t : State} (hz : BeforeRestart s z)
    (ht : LossRestarts is s z t) :
    (t.mu = switchRestart s.mu ∨ t.mu = (switchLockLost s.mu).1)
      ∧ (z.mu.switch.state = .armed ↔ s.mu.switch.state = .armed ∧ t.mu.switch.reason = .restart) := by
  rcases hz.mu with h | h
  · have hmu : t.mu = switchRestart s.mu := by rw [ht.mu, h]
    refine ⟨.inl hmu, ?_⟩
    rw [h, hmu]
    refine ⟨fun harmed => ⟨harmed, ?_⟩, fun hboth => hboth.1⟩
    rw [switchRestart_armed harmed]
    rfl
  · have hmu : t.mu = (switchLockLost s.mu).1 := by rw [ht.mu, h, switchRestart_idle (switchLockLost_state _)]
    refine ⟨.inr hmu, ?_⟩
    rw [h, hmu, switchLockLost_state]
    refine ⟨nofun, fun ⟨harmed, hreason⟩ => ?_⟩
    rw [switchLockLost_armed harmed] at hreason
    cases hreason

end Sys2Proof.Machine
end

section
/-!
RESTART_CARRIED_OUT settled (R76, R118, R135, R136, R147, R163).
-/

namespace Sys2Proof.Machine

theorem stopBranch_entry {t : State} {s : State} (h : t.bu = s.bu.map stopBranch) (b : BranchNo) : t.bu[b] =
    { config := s.bu[b].config, enabled := false, dropQueue := [], insertQueue := [], sending := none
      receiver := .run, line := .waitHigh, side := .filling, dropReported := false, insertReported := false } := by
  rw [h]
  exact stopBranch_get _ b

/-- The Map Unit where RESTART and the lock-lost notice find it: the Pending map and the length stand, and the switch
ends as the one or the other ends it (R74, R76). -/
theorem switchEnded {m m' : MapUnit} (h : m' = switchRestart m ∨ m' = (switchLockLost m).1) :
    m'.pendingMap = m.pendingMap ∧ m'.live.length = m.live.length
      ∧ (m.switch.state = .idle → m' = m)
      ∧ (m.switch.state = .armed → m'.live = m.live ∧ ∃ why, (why = .lockLost ∨ why = .restart)
          ∧ m'.switch = endRecord m.switch .abandoned why)
      ∧ (m.switch.state = .guarding → (∀ k : SlotIx, m'.live.entries[k] =
            if m.live.entries[k] = .guard then m.pendingMap.entries[k] else m.live.entries[k])
          ∧ ∃ why, (why = .lockLost ∨ why = .none) ∧ m'.switch = endRecord m.switch .done why) := by
  cases hs : m.switch.state with
  | idle =>
    have hm : m' = m := h.elim (fun h => h.trans (switchRestart_idle hs))
      fun h => h.trans (congrArg Prod.fst (switchLockLost_idle hs))
    subst hm
    exact ⟨rfl, rfl, fun _ => rfl, nofun, nofun⟩
  | armed =>
    obtain ⟨why, hwhy, hm⟩ : ∃ why, (why = .lockLost ∨ why = .restart) ∧ m' = abandonSwitch m why := by
      rcases h with h | h
      · exact ⟨.restart, .inr rfl, h.trans (switchRestart_armed hs)⟩
      · exact ⟨.lockLost, .inl rfl, h.trans (switchLockLost_armed hs)⟩
    rw [hm]
    exact ⟨rfl, rfl, nofun, fun _ => ⟨rfl, why, hwhy, rfl⟩, nofun⟩
  | guarding =>
    obtain ⟨why, hwhy, hm⟩ : ∃ why, (why = .lockLost ∨ why = .none) ∧ m' = completeGuard m why := by
      rcases h with h | h
      · exact ⟨.none, .inr rfl, h.trans (switchRestart_guarding hs)⟩
      · exact ⟨.lockLost, .inl rfl, h.trans (switchLockLost_guarding hs)⟩
    rw [hm]
    exact ⟨completeGuard_pendingMap _ _, completeGuard_length _ _, nofun, nofun,
      fun _ => ⟨fun k => completeGuard_entry _ _ k, why, hwhy, rfl⟩⟩

/-- The checker after both notices (R156, R162). -/
theorem patternLockLost_clearRun (p : PatternUnit) : patternLockLost (clearRun p) =
    { (if p.checker = .off then p
       else { p with checker := .seek, checkerRegister := none, progress := .empty, window := [] }) with
      run := .idle, mode := .continuous, runLength := .len256, checked := 0, errors := 0
      resyncs := 0, stopped := false } := by
  obtain ⟨config, generator, checker, register, progress, window, run, mode, len, checked, errors, resyncs, stopped⟩ :=
      p
  cases checker <;> rfl

/-- The SERVICE slot that ends the frame of an executed RESTART, whole (R118, R135). -/
theorem exec_restartCarriedOut_slot {ch : TrunkBits} {i : SlotIx} {s : State} {o : OutChar} {is : List CounterIx}
    {c : FrameContext} (hat : AtSlot i .service s) (hexec : s.sp.executed = true) (hdue : s.me.deferredRestart = true)
    (hends : s.sp.parser = .finish ∨ (s.sp.parser ≠ .idle ∧ ∀ v, classify ch ≠ .plain v)) (h : EndsFrame ch s o is c) :
    exec (.restartCarriedOut ch) s = .next (slotAnswered i ch o (frameNotice true is (s.withSp c))) := by
  have hrow : exec (.restartCarriedOut ch) s = exec (.trunkCharacterReceived ch) s := congrArg Host.Outcome.next
    (trunkRow_due ((isRestartCarriedOut_iff ch s).mpr ⟨hat.ready, hexec, hdue, .inl ⟨i, hat, hends⟩⟩) ch s)
  rw [hrow, exec_serviceSlot hat, h.step, hexec]

/-- Settles O37: the SERVICE slot that ends the frame, and the loss of lock that aborts it. -/
theorem restartIsCarriedOut : Obligations.RestartIsCarriedOut := by
  refine ⟨?atSlot, ?atLoss⟩
  case atSlot =>
    rintro ch i s r restarted hat rfl rfl hexec hdue hends
    obtain ⟨o, is, c, hc⟩ := endsFrame hends
    obtain ⟨u, hu, ht⟩ : ∃ u, frameNotice true is (s.withSp c) = u ∧ RestartLeaves is (s.withSp c) u :=
      ⟨_, rfl, frameNotice_restart (s := s.withSp c) hdue is⟩
    have hcycle : cycleField (s.withSp c) = s.ct.cycle := if_pos hat.locked
    obtain ⟨ps, hps, heq⟩ := ht.eq
    rw [hcycle] at heq
    have hcb : CountersRestarted (is ++ racingCounts (s.withSp c)) u.cb := ht.cb
    have hmu : u.mu = switchRestart s.mu := ht.mu
    rw [exec_restartCarriedOut_slot hat hexec hdue hends hc, hu]
    refine ⟨slotAnswered i ch o u, rfl, ht.me, ?ct, ?pendingMap, ?length, fun h => ?idle, fun h => ?armed,
      fun h => ?guarding, fun b => stopBranch_entry (s := s) ht.bu b, ht.pu, ?oldest, hcb.capture, hcb.deferred,
      fun hnone => ?none, fun b bits rest x v hpending hrest hx hon hline hv => ?one, fun hfinish hfe => ?complete,
      fun hfs => ?begun, ?executed, ?reply, ht.inReset.trans hat.ready.1, ht.pending⟩
    case ct =>
      have hct : u.ct = s.ct := ht.ct
      unfold slotAnswered
      rw [hct]
      rfl
    case pendingMap => exact hmu ▸ switchRestart_pendingMap s.mu
    case length => exact hmu ▸ switchRestart_length s.mu
    case idle => exact hmu.trans (switchRestart_idle h)
    case armed =>
      have habandoned : u.mu = abandonSwitch s.mu .restart := hmu.trans (switchRestart_armed h)
      have hlive : u.mu.live = s.mu.live := by rw [habandoned]; rfl
      have hswitch : u.mu.switch = endRecord s.mu.switch .abandoned .restart := by rw [habandoned]; rfl
      exact ⟨hlive, hswitch⟩
    case guarding =>
      have hcompleted : u.mu = completeGuard s.mu .none := hmu.trans (switchRestart_guarding h)
      have hswitch : u.mu.switch = endRecord s.mu.switch .done .none := by rw [hcompleted]; rfl
      have hentry := fun k => completeGuard_entry s.mu .none k
      rw [← hcompleted] at hentry
      exact ⟨hentry, hswitch⟩
    case oldest =>
      have holdest : u.eq.events.head? = some (restartedRecord (s.mu.switch.state = .armed) s.ct.cycle) := by
        rw [heq]
        exact foldl_postTo_head? rfl s.ct.cycle ps
      exact holdest
    case none =>
      obtain ⟨hcounts, -, hlate⟩ := racing_of_none (s := s.withSp c) hnone
      rw [hlate, List.perm_nil] at hps
      rw [hcounts, List.append_nil] at hcb
      subst hps
      refine ⟨heq, fun k hk => hcb.others k fun hmem => absurd (hc.small k hmem) (by omega), fun hfinish hfe => ?_⟩
      exact hcb.nothing (hc.completed hfinish hfe).2.1
    case one =>
      have hone : OneBehind b bits (s.withSp c) := ⟨⟨rest, hpending, hrest⟩, hat.ready.1, hx ▸ hon, hx ▸ hline⟩
      refine ⟨fun k hk => hcb.oneBehind hone hx hv hc.small hc.nodup k hk, ?_⟩
      rcases hone.posted hx hv hps with rfl | ⟨hnone, hrun, hpol, rfl⟩ | ⟨hsome, hfull, hrep, rfl⟩
      · exact .inl heq
      · exact .inr (.inl ⟨hnone, hrun, hpol, heq⟩)
      · exact .inr (.inr ⟨hsome, hfull, hrep, heq⟩)
    case complete =>
      obtain ⟨ho, -, hidle⟩ := hc.completed hfinish hfe
      have hgood : classify ch ≠ .damaged := by rw [hfe]; nofun
      have hsp : u.sp = c := ht.sp
      have hout : formTrunk o = ch := by
        have hformed := formTrunk_forwarded hgood 0
        rw [hfe] at hformed
        rw [ho]
        exact hformed
      refine ⟨hsp ▸ hidle, ?_⟩
      unfold slotAnswered
      rw [State.withTrunk_trunk, hout, stop_of_undamaged hgood]
      rfl
    case begun => exact (congrArg FrameContext.parser ht.sp).trans (hc.begun hfs)
    case executed => exact (congrArg FrameContext.executed ht.sp).trans hc.executed
    case reply => exact (congrArg FrameContext.pendingReply ht.sp).trans hc.reply
  case atLoss =>
    rintro ch s r hready hlose rfl hframe hexec hdue
    have hcarried : exec (.restartCarriedOut ch) s = .next (trunkStep ch s) := congrArg Host.Outcome.next
      (trunkRow_due ((isRestartCarriedOut_iff ch s).mpr ⟨hready, hexec, hdue, .inr ⟨hlose, hframe⟩⟩) ch s)
    have hlost : exec (.lockLost ch) s = .next (trunkStep ch s) :=
      congrArg Host.Outcome.next (trunkRow_due ((isLockLost_iff ch s).mpr ⟨hready, hlose⟩) ch s)
    have hrestart : restartAtLoss s = true := by
      unfold restartAtLoss
      rw [hexec, hdue, Bool.and_true, Bool.and_true]
      exact decide_eq_true hframe
    obtain ⟨z, t, hstep, hz, ht, hposted⟩ := loseLockWithRestart_leaves hlose.1 (lockLostCounts s (damageCounts ch))
    have hlose' : loseLock (damageCounts ch) s = t := (if_pos hrestart).trans hstep
    obtain ⟨hmu, harmed⟩ := hz.switch ht
    obtain ⟨hpendingMap, hlength, hidle, hswitchArmed, hguarding⟩ := switchEnded hmu
    rw [hcarried, hlost, trunkStep_losesLock hready hlose, hlose', trunkAnswered_forwarded]
    refine ⟨_, rfl, rfl, ht.me, ht.ct, rfl, ht.sp, fun b => stopBranch_entry (s := s) ht.bu b, ?pu, ht.cb.capture,
      ht.cb.deferred, hpendingMap, hlength, hidle, hswitchArmed, hguarding, fun hnone => ⟨?events, fun k => ?counters⟩,
      ht.inReset, ht.pending⟩
    case pu => exact ht.pu.trans (patternLockLost_clearRun s.pu)
    case events =>
      obtain ⟨cycle, hcycle, hq⟩ := hposted hnone
      have hrecord : restartedRecord (z.mu.switch.state = .armed) cycle
          = restartedRecord (s.mu.switch.state = .armed ∧ t.mu.switch.reason = .restart) cycle := by
        unfold restartedRecord
        rw [if_congr harmed rfl rfl]
      rw [hrecord] at hq
      exact ⟨cycle, _, _, hcycle, rfl, rfl, hq⟩
    case counters =>
      have hnone' : NoneBehind z := fun b bits rest => hz.pending ▸ hnone b bits rest
      have hcb := ht.cb
      rw [(racing_of_none hnone').1, List.append_nil] at hcb
      refine (hcb.racing (damageCounts_nodup ch _) k).imp_right fun ⟨hlive, hmem⟩ => ⟨hlive, ?_⟩
      rcases (mem_lockLostCounts_iff ch s k).mp hmem with h1 | h2 | ⟨h7, -⟩ | h0
      · exact .inl h1
      · exact .inr (.inl h2)
      · exact .inr (.inr (.inl h7))
      · exact .inr (.inr (.inr h0))

end Sys2Proof.Machine
end
